-- ==== Sys2Proof/Word.lean ====
section
/-! DEFINITION. The words of the part: bytes, frames and the numbers that wrap at a fixed width. A quantity the manual
adds, compares or bounds without wrapping (a dwell, a temperature, a count) is a `Nat` or an `Int`, not a word. -/

namespace Sys2Proof

/-- One byte of a frame (R153). -/
abbrev Byte := BitVec 8

/-- A frame as it stands on the ring, first byte first (R153). -/
abbrev Frame := List Byte

/-- An index number: 16 bits, index arithmetic modulo 65536 (section 4.2 of the scope chapter, R10, R11). -/
abbrev Index := BitVec 16

/-- A card serial: 24 bits, wraps (section 4.5 of the scope chapter, R30). -/
abbrev Serial := BitVec 24

/-- A product code (R17, R58). -/
abbrev Sku := BitVec 32

/-- A production counter: 32 bits, wraps (R31, R130). -/
abbrev Counter := BitVec 32

/-- A batch number: 16 bits, wraps (R125). -/
abbrev BatchNo := BitVec 16

/-- A lane, 0 to 5; zone n is the seal zone of lane n (section 4.1 of the scope chapter). -/
abbrev Lane := Fin 6

/-- The fixed number of a card record in the pool of 256 (R17, R23). -/
abbrev RecordNo := Fin 256

/-- A recipe entry's number within its bank (R61). -/
abbrev EntryNo := Fin 16

/-- A raw code of the 10-bit converter (R107). -/
abbrev RawCode := BitVec 10

end Sys2Proof
end

