-- ==== Sys2Proof/Syntax.lean ====
section
/-! DEFINITION. The commands of the block: one constructor for each row of spec/opcode_table.json.

A row that is a service request (IDENTIFY to UNKNOWN_REQUEST) has no operand of its own here: R160 reads the request code
from byte 3 and the operand from the data bytes of the service frame in process, and that frame stands, byte for byte, at the
head of the Frame Buffer. The events that come from outside the part carry what comes with them: the bytes of an arriving
frame, the raw code of a conversion, the strap levels. -/

namespace Sys2Proof

/-- One thing that happens while the pitch steps of a cycle frame run. The manual leaves the order of the lanes' pitch steps,
and any interleaving of their stages, open (R32), and lets conversions end at any moment among them (R46, R92, R114): the
command CYCLE_FRAME carries the order that came about as a list of these. -/
inductive Tick where
  /-- Lane `l` takes the next stage of its pitch step (R55). -/
  | stage (l : Lane)
  /-- The conversion in flight ends with this raw code (R107, R110). -/
  | conversion (raw : RawCode)
deriving DecidableEq, Repr

/-- The commands: every row of spec/opcode_table.json, in the table's order. -/
inductive Instr where
  /-- DEVICE_RESET (R142): power-on, or the end of RESET#. `addr` is the level of the straps ADDR5..ADDR0, `roleHigh` says
  that the ROLE strap is high. -/
  | deviceReset (addr : BitVec 6) (roleHigh : Bool)
  /-- FRAME_ARRIVAL (R144): the last byte of a frame has arrived at RING IN. -/
  | frameArrival (bytes : Frame)
  /-- FRAME_DEPARTURE (R144): the last byte of the frame in process has been sent at RING OUT. -/
  | frameDeparture
  /-- FRAME_PROCESSING (R145): the oldest buffered frame is taken, checked, and forwarded or handed on. -/
  | frameProcessing
  /-- CYCLE_FRAME (R132): the good cycle frame handed on by FRAME_PROCESSING does its work. `gapOrder` is the order in which
  lanes take the continuity handling of a gap, which R132 leaves open; `ticks` is what happens while the pitch steps run. What
  the two lists leave out is done after them, in lane order. -/
  | cycleFrame (gapOrder : List Lane) (ticks : List Tick)
  /-- PITCH_COUNT_SATURATION (R12): the count of the Pitch Timer reaches 65535. -/
  | pitchCountSaturation
  /-- CONVERSION_END (R110): the conversion in flight ends with this raw code. -/
  | conversionEnd (raw : RawCode)
  /-- ZONE_FAULT_ENTRY_AFTER_STEP (R46): a lane whose ZONE_FAULT became active during its pitch step enters FAULT. -/
  | zoneFaultEntryAfterStep (lane : Lane)
  /-- IDENTIFY (R164). -/
  | identify
  /-- READ_STATE (R165). -/
  | readState
  /-- MAP_SLOT (R148). -/
  | mapSlot
  /-- READ_SLOT_MAP (R148). -/
  | readSlotMap
  /-- SET_STATIONS (R6). -/
  | setStations
  /-- READ_STATIONS (R7). -/
  | readStations
  /-- LOAD_RECIPE (R63). -/
  | loadRecipe
  /-- READ_RECIPE (R65). -/
  | readRecipe
  /-- SWITCH_BANK with an index (R66). -/
  | switchBank
  /-- SWITCH_BANK with the indication CANCEL (R67). -/
  | switchBankCancel
  /-- LANE_COMMAND RUN (R41). -/
  | laneRun
  /-- LANE_COMMAND DRAIN (R42). -/
  | laneDrain
  /-- LANE_COMMAND PURGE (R44). -/
  | lanePurge
  /-- LANE_COMMAND CLEAR (R48). -/
  | laneClear
  /-- LANE_COMMAND CHANGEOVER (R50). -/
  | laneChangeover
  /-- LANE_COMMAND FORCE ON (R52). -/
  | forceOn
  /-- LANE_COMMAND FORCE OFF (R52). -/
  | forceOff
  /-- LANE_COMMAND AUTO_PURGE ON (R53). -/
  | autoPurgeOn
  /-- LANE_COMMAND AUTO_PURGE OFF (R53). -/
  | autoPurgeOff
  /-- READ_CARD (R34). -/
  | readCard
  /-- READ_COUNTERS (R168). -/
  | readCounters
  /-- CLEAR_COUNTERS (R169). -/
  | clearCounters
  /-- READ_ALARMS (R174). -/
  | readAlarms
  /-- SET_ALARM_MASKS (R175). -/
  | setAlarmMasks
  /-- SET_ZONE (R112). -/
  | setZone
  /-- READ_ZONES (R113). Conversions may end while the reply is being written: the n-th list of `during` holds the raw codes of
  the conversions that end after zone n-1 has been read and before zone n is. -/
  | readZones (during : List (List RawCode))
  /-- SET_ROLE (R143). -/
  | setRole
  /-- RESTART (R170). -/
  | restart
  /-- UNKNOWN_REQUEST (R157): a service frame with a request code that is none of the catalogue's. -/
  | unknownRequest
  /-- RESET_ASSERTED (R142). -/
  | resetAsserted
  /-- SUPPLY_REMOVED (R142). -/
  | supplyRemoved
deriving DecidableEq, Repr

end Sys2Proof
end

