-- ==== Sys2Proof/Machine/Bytes.lean ====
section
/-! DEFINITION. Bytes of frames: multi-byte fields high byte first, signed fields as sign and magnitude, packed 4-bit counts, and
the CRC of the ring (R153, R154, R158). -/

namespace Sys2Proof.Machine

/-- Byte `i` of a frame; 0 beyond its end. -/
def byteAt (f : List Byte) (i : Nat) : Byte := f.getD i 0

/-- The value of byte `i`. -/
def natAt (f : List Byte) (i : Nat) : Nat := (byteAt f i).toNat

/-- A 16-bit field from byte `i`, high byte first (R153). -/
def word16 (f : List Byte) (i : Nat) : BitVec 16 := byteAt f i ++ byteAt f (i + 1)

/-- A 24-bit field from byte `i` (R153). -/
def word24 (f : List Byte) (i : Nat) : BitVec 24 := byteAt f i ++ byteAt f (i + 1) ++ byteAt f (i + 2)

/-- A 32-bit field from byte `i` (R153). -/
def word32 (f : List Byte) (i : Nat) : BitVec 32 :=
  byteAt f i ++ byteAt f (i + 1) ++ byteAt f (i + 2) ++ byteAt f (i + 3)

/-- The value of a 16-bit field. -/
def nat16At (f : List Byte) (i : Nat) : Nat := (word16 f i).toNat

/-- One byte holding a number. -/
def byteOf (n : Nat) : Byte := BitVec.ofNat 8 n

/-- One byte for a flag, 1 or 0. -/
def boolByte (b : Bool) : Byte := if b then 1 else 0

/-- The two bytes of a 16-bit word, high byte first (R153). -/
def bytes16 (w : BitVec 16) : List Byte := [w.extractLsb' 8 8, w.extractLsb' 0 8]

/-- The three bytes of a 24-bit word (R153). -/
def bytes24 (w : BitVec 24) : List Byte := [w.extractLsb' 16 8, w.extractLsb' 8 8, w.extractLsb' 0 8]

/-- The four bytes of a 32-bit word (R153). -/
def bytes32 (w : BitVec 32) : List Byte :=
  [w.extractLsb' 24 8, w.extractLsb' 16 8, w.extractLsb' 8 8, w.extractLsb' 0 8]

/-- A number as a 16-bit field. -/
def nat16 (n : Nat) : List Byte := bytes16 (BitVec.ofNat 16 n)

/-- An integer as a 16-bit field in two's complement (R159, byte 29). -/
def int16 (n : Int) : List Byte := bytes16 (BitVec.ofInt 16 n)

/-- The first `n` bytes of a list filled up with zeros (R154, R157: bytes beyond those listed are 0). -/
def padTo (n : Nat) (bs : List Byte) : List Byte := bs.take n ++ List.replicate (n - bs.length) 0

/-- A frame with `bs` written over its bytes from byte `i` on. -/
def patch (f : List Byte) (i : Nat) (bs : List Byte) : List Byte := f.take i ++ bs ++ f.drop (i + bs.length)

/-- Eight packed 4-bit counts from byte `i`: cavity 0 in the high half of the first byte (R154). -/
def counts8 (f : List Byte) (i : Nat) : List Nat :=
  (List.range 4).flatMap (fun j => [natAt f (i + j) / 16, natAt f (i + j) % 16])

/-- Eight 4-bit counts packed into four bytes; counts beyond the list's end are 0 (R154). -/
def pack8 (cs : List Nat) : List Byte :=
  (List.range 4).map (fun j => byteOf (16 * cs.getD (2 * j) 0 + cs.getD (2 * j + 1) 0))

/-- A byte whose bit 7 is the first flag of the list, bit 6 the second and so on (R155 verdicts, R159 segment mask). -/
def bitsFromTop (bs : List Bool) : Byte :=
  byteOf (((List.range 8).map (fun j => if bs.getD j false then 2 ^ (7 - j) else 0)).sum)

/-- A number whose bit `j` is the `j`-th flag of the list (R159, R174, R175). -/
def bitsFromLow (bs : List Bool) : Nat :=
  (bs.zipIdx.map (fun p => if p.1 then 2 ^ p.2 else 0)).sum

/-- Bit `j` of a byte. -/
def bitOf (b : Byte) (j : Nat) : Bool := b.getLsbD j

/-- The magnitude of a signed field, bits 6 to 0 (R158). -/
def magnitude (b : Byte) : Nat := b.toNat % 128

/-- A signed field: sign in bit 7 (1 = negative), magnitude below; a negative sign with magnitude 0 is 0 (R158, R59, R112). -/
def signedOf (b : Byte) : Int := if b.toNat < 128 then (magnitude b : Int) else -(magnitude b : Int)

/-- An integer as a signed field (R158). -/
def signedByte (n : Int) : Byte := if n < 0 then byteOf (128 + n.natAbs) else byteOf n.natAbs

/-! ## The frame check -/

/-- `k n`, with `n` made a numeral first: it changes no value, and lets the kernel evaluate a long CRC. -/
def forced {α : Type} (n : Nat) (k : Nat → α) : α :=
  match n with
  | 0 => k 0
  | m + 1 => k (m + 1)

/-- One bit of the CRC-16 with polynomial x^16 + x^12 + x^5 + 1, the register held as a number below 65536 (R153). -/
def crcBit (c : Nat) : Nat := if 0x8000 ≤ c then (2 * c - 0x10000) ^^^ 0x1021 else 2 * c

/-- `n` bits of the CRC. -/
def crcBits : Nat → Nat → Nat
  | 0, c => c
  | n + 1, c => forced (crcBit c) (crcBits n)

/-- The CRC register after the bytes of a list, each taken most significant bit first (R153). -/
def crcFrom : List Byte → Nat → Nat
  | [], c => c
  | b :: bs, c => forced (crcBits 8 (c ^^^ (256 * b.toNat))) (crcFrom bs)

/-- The CRC of the ring: initial value 0xFFFF, no final inversion (R153). -/
def crc16 (bs : List Byte) : BitVec 16 := BitVec.ofNat 16 (crcFrom bs 0xFFFF)

/-- Every byte of a frame before its last two, over which the check is made (R145). -/
def frameBody (f : Frame) : List Byte := f.take (f.length - 2)

/-- The frame check matches (R145). -/
def crcGood (f : Frame) : Bool := crc16 (frameBody f) = word16 f (f.length - 2)

/-- A frame with its CRC regenerated (R152, R161). -/
def withCrc (f : Frame) : Frame := frameBody f ++ bytes16 (crc16 (frameBody f))

end Sys2Proof.Machine
end

