-- ==== Sys2Proof/Config.lean ====
section
/-! DEFINITION. What an installation of the part fixes and the manual leaves to it. The manual leaves no value of the part itself
open, so there is no free value here. -/

namespace Sys2Proof.Config

/-- DESIGN CHOICE (assumption 1, unsafe): the node address on the straps in `State.reset`, 12, that of the manual's own start-up
procedure (section 11.8). The command DEVICE_RESET takes any strap levels. -/
def strapAddress : BitVec 6 := 12#6

/-- DESIGN CHOICE (assumption 1, unsafe): the ROLE strap is high in `State.reset`, as in section 11.8. -/
def strapRoleHigh : Bool := true

end Sys2Proof.Config
end

