-- ==== Sys2Proof/Machine/State.lean ====
section
/-! DEFINITION. The state of the part as plain data, its value after device reset, and the reasons a step can stop. Each field
cites the rule that names it. The manual's link field (R17) is the order of the lists below: a record stands in the list that
holds it, so it stands on exactly one place of it. -/

namespace Sys2Proof.Machine

/-! ## Names -/

/-- Whether the part is in operation (R142). -/
inductive Power where
  /-- powered and out of reset -/
  | running
  /-- RESET# asserted -/
  | heldInReset
  /-- the supply is removed -/
  | unpowered
deriving DecidableEq, Repr

/-- The node role (R142). -/
inductive Role where
  | bypass
  | monitor
  | active
deriving DecidableEq, Repr

/-- How far the frame at the head of the Frame Buffer has come (R144, R145). -/
inductive Phase where
  /-- not taken for processing yet -/
  | waiting
  /-- checked; a good cycle frame, handed on to tracking -/
  | cycle
  /-- checked; a service frame for this node or for broadcast, handed on to the Service Unit -/
  | service
  /-- processing complete; being sent at RING OUT -/
  | sending
deriving DecidableEq, Repr

/-- The lane states (R39). -/
inductive LaneState where
  | idle
  | run
  | drain
  | fault
deriving DecidableEq, Repr

/-- The two recipe banks (R61). -/
inductive Bank where
  | A
  | B
deriving DecidableEq, Repr

/-- The close modes of a recipe (R58). -/
inductive CloseMode where
  | fixed
  | runEnd
  | runEndMark
deriving DecidableEq, Repr

/-- Station kinds (section 4.3 of the scope chapter); `sealing` is SEAL, and STACK has commands only. -/
inductive Kind where
  | load
  | inspect
  | card
  | sealing
  | gate
  | stack
deriving DecidableEq, Repr

/-- The thirteen reject reasons, in code order (R21, R154). -/
inductive Reason where
  | loadShort
  | loadOver
  | inspectFail
  | weightOut
  | noCard
  | stationSilent
  | sealNoHeat
  | sealUnderdose
  | sealOverdose
  | sealUnconfirmed
  | forced
  | lanePurge
  | indexGap
deriving DecidableEq, Repr

/-- Outcomes of a seal calculation (R20, R99). -/
inductive SealOutcome where
  | ok
  | clampedLow
  | clampedHigh
  | noHeat
  | noWindow
  | underdose
  | overdose
deriving DecidableEq, Repr

/-- Zone states (R110). -/
inductive ZoneState where
  | warming
  | ready
  | holding
  | fault
deriving DecidableEq, Repr

/-- Stacker event kinds (R126, R127, R154). -/
inductive StackEventKind where
  | add
  | closeFull
  | closeShort
  | closeChangeover
  | closeEmptyEnd
deriving DecidableEq, Repr

/-! ## Tables -/

/-- The Station Map (R2). -/
structure StationMap where
  /-- loader offset -/
  a : Nat
  /-- inspection offset -/
  b : Nat
  /-- card feeder offset -/
  c : Nat
  /-- seal platen offset -/
  d : Nat
  /-- punch and gate offset -/
  e : Nat
  /-- gate window -/
  g : Nat
  silenceLimit : Nat
  /-- dwell fraction, 256ths of the pitch period -/
  dwellFraction : Nat
  /-- motion allowance, ms -/
  motion : Nat
  pMin : Nat
  pMax : Nat
  nominalPitch : Nat
deriving DecidableEq, Repr

/-- The fields of a VALID recipe entry (R58). -/
structure Recipe where
  sku : Sku
  cavities : Nat
  /-- as many expected counts as there are cavities -/
  expected : List Nat
  wMin : Nat
  wMax : Nat
  /-- activation temperature, whole °C -/
  ta : Nat
  /-- minimum excess, tenths of °C -/
  eMin : Nat
  /-- heat dose, °C·ms -/
  heatDose : Nat
  dMin : Nat
  dMax : Nat
  tolU : Nat
  tolO : Nat
  /-- base pressure -/
  pb : Nat
  /-- eight signed segment offsets, 128ths of the base pressure -/
  offsets : List Int
  batchSize : Nat
  closeMode : CloseMode
deriving DecidableEq, Repr

/-- A recipe entry: EMPTY (`none`) or VALID with its fields, and its reference count (R58, R62). -/
structure Entry where
  recipe : Option Recipe
  refs : Nat
deriving DecidableEq, Repr

/-- The use of one Slot Map entry (R147). -/
inductive SlotUse where
  | unused
  | command (kind : Kind) (lane : Lane)
  | report (kind : Kind) (lane : Lane)
  | status
deriving DecidableEq, Repr

/-! ## Card records -/

/-- The station kinds for which an action was planned for a card (R19). -/
structure Commanded where
  load : Bool
  inspect : Bool
  card : Bool
  sealing : Bool
deriving DecidableEq, Repr

/-- An inspection result: a verdict per cavity (`true` = FAIL) and the weight, `none` for "not measured" (R17, R79). -/
structure InspectResult where
  fails : List Bool
  weight : Option Nat
deriving DecidableEq, Repr

/-- The seal record (R20). -/
structure SealRecord where
  z : Nat
  excess : Int
  dwell : Nat
  outcome : SealOutcome
  achieved : Option Nat
  contact : Option Bool
deriving DecidableEq, Repr

/-- A card record in use (R17). -/
structure Card where
  record : RecordNo
  serial : Serial
  lane : Lane
  formed : Index
  bank : Bank
  entry : EntryNo
  sku : Sku
  commanded : Commanded
  loadResult : Option (List Nat)
  inspection : Option InspectResult
  placed : Option Bool
  sealRec : Option SealRecord
  /-- the reason set in the order of addition without duplicates, so that the first reason is its head (R21) -/
  reasons : List Reason
  /-- the gate entry's gate index; its lane is the card's lane (R22) -/
  gateIndex : Option Index
deriving DecidableEq, Repr

/-! ## Commands and batches -/

/-- A stacker event (R126 to R128). -/
structure StackEvent where
  kind : StackEventKind
  number : BatchNo
  count : Nat
deriving DecidableEq, Repr

/-- A planned command with the fields its payload carries (R154). `go` is false for SKIP. -/
inductive Command where
  | load (go : Bool) (serial : Serial) (cavities : Nat) (counts : List Nat)
  | inspect (go : Bool) (serial : Serial) (cavities : Nat) (sku : Sku)
  | card (go : Bool) (serial : Serial) (sku : Sku)
  | sealing (go : Bool) (serial : Serial) (dwell : Nat) (pressures : List Nat)
  | gate (reject : Bool) (serial : Serial) (reason : Option Reason)
  | stack (events : List StackEvent)
deriving DecidableEq, Repr

/-- The commands a lane planned at the last accepted frame; the Ring Port holds them for repeats (R134). -/
structure LanePlan where
  load : Option Command
  inspect : Option Command
  card : Option Command
  sealing : Option Command
  gate : Option Command
  stack : Option Command
deriving DecidableEq, Repr

/-- An open batch (R125). -/
structure Batch where
  sku : Sku
  size : Nat
  mode : CloseMode
  number : BatchNo
  count : Nat
deriving DecidableEq, Repr

/-- A pending changeover (R50). -/
structure Changeover where
  entry : EntryNo
  index : Index
deriving DecidableEq, Repr

/-- The silence counters of a lane (R84). -/
structure Silence where
  load : Nat
  inspect : Nat
  card : Nat
  sealing : Nat
deriving DecidableEq, Repr

/-! ## Requests -/

/-- Reply statuses (R157, R163). -/
inductive Status where
  | done
  | scheduled
  | refusedFormat
  | refusedRange
  | refusedState
  | refusedInUse
  | refusedBusy
  | refusedDuplicate
deriving DecidableEq, Repr

/-- What a READ_CARD sees (R33, R34): the last index, the Station Map, the web lists of lanes 0 to 5 and the gate list, kept for the frame at
a place of the Frame Buffer, 0 the head. -/
structure CardView where
  place : Nat
  lastIndex : Option Index
  stations : Option StationMap
  webs : Vector (List Card) 6
  gate : List Card
deriving DecidableEq, Repr

/-! ## Alarms -/

/-- One alarm of the Alarm Table (R172): the latch, `some` of its five data bytes while set, and the two enables. The active
indication of a condition alarm is kept by its owner. -/
structure Alarm where
  latch : Option (List Byte)
  summaryEn : Bool
  stopEn : Bool
deriving DecidableEq, Repr

/-- The lane alarm kinds, codes 1 to 7 (R172). -/
inductive LaneAlarm where
  | stationLost
  | zoneFault
  | rejectUnconfirmed
  | unexpectedReject
  | changeoverFailed
  | trackLost
  | planMismatch
deriving DecidableEq, Repr

/-- The chip alarm kinds, codes 8 to 13 (R172). -/
inductive ChipAlarm where
  | ringOverrun
  | frameCrc
  | indexGap
  | indexRepeat
  | bankSwitchFailed
  | planConflict
deriving DecidableEq, Repr

/-! ## Lanes, zones, timer, counters -/

/-- Everything the part holds for one lane: the lane record of R38, the lane's web list (R25), its blind-answer flag (R120), its
STATION_LOST condition (R85), its production counters (R130), its alarms (R172) and its planned commands (R134). -/
structure LaneRec where
  state : LaneState
  assigned : EntryNo
  changeover : Option Changeover
  force : Bool
  autoPurge : Bool
  /-- blind-window count (R49) -/
  blind : Nat
  silence : Silence
  openBatch : Option Batch
  lastBatch : BatchNo
  /-- held run-end event (R48) -/
  held : Option StackEvent
  /-- blind-answer flag (R120) -/
  blindAnswer : Bool
  /-- STATION_LOST condition as last evaluated (R85) -/
  stationLost : Bool
  /-- ZONE_FAULT became active during the pitch step in progress; the entry to FAULT is taken at its end (R46) -/
  faultDue : Bool
  /-- web list, oldest card first (R25) -/
  web : List Card
  /-- production counters 0 to 20 (R130) -/
  counters : Vector Counter 21
  /-- lane alarms, codes 1 to 7 in order (R172) -/
  alarms : Vector Alarm 7
  plan : LanePlan
deriving DecidableEq, Repr

/-- A platen zone (section 7, R107 to R112). -/
structure Zone where
  offset : Int
  limit : Nat
  /-- corrected codes, oldest first (R109) -/
  history : List Nat
  z : Nat
  state : ZoneState
  streak : Nat
deriving DecidableEq, Repr

/-- The conversion in flight: its zone, and the offset and hold limit that stood when it began (R107, R108, R110, R112). -/
structure Conversion where
  zone : Lane
  offset : Int
  limit : Nat
deriving DecidableEq, Repr

/-- The Pitch Timer (section 1.3, R12). -/
structure PitchTimer where
  count : Nat
  average : Option Nat
  stall : Bool
deriving DecidableEq, Repr

/-- The five Ring Port counters (R146). -/
structure RingCounters where
  discarded : Nat
  crcErrors : Nat
  slotsAbsent : Nat
  unverified : Nat
  mismatches : Nat
deriving DecidableEq, Repr

/-- The state of the part, and the queue of commands that wait. -/
structure State where
  /-- supply and RESET# (R142) -/
  power : Power
  /-- the BYPDRV output (R142) -/
  bypdrv : Bool
  /-- node address latched from the straps (R142) -/
  nodeAddr : BitVec 6
  role : Role
  /-- pending role (R143) -/
  pendingRole : Option Role
  /-- Frame Buffer, oldest frame first (R144) -/
  buffer : List Frame
  /-- how far the frame at the head of the buffer has come (R145) -/
  phase : Phase
  /-- what the READ_CARD requests held behind a cycle frame see, as kept before its pitch steps; the model's own field (R33, assumption
  21) -/
  cardViews : List CardView
  /-- the frame last sent at RING OUT; the model's own field, the output of the part (R144) -/
  ringOut : Option Frame
  /-- last index (R9) -/
  lastIndex : Option Index
  /-- Ring Port counters (R146) -/
  ring : RingCounters
  /-- Slot Map (R147) -/
  slotMap : Vector SlotUse 48
  /-- Station Map; `none` while INVALID (R2) -/
  stations : Option StationMap
  timer : PitchTimer
  /-- free list, head first (R24) -/
  free : List RecordNo
  /-- gate list, oldest entry first (R26) -/
  gate : List Card
  /-- serial counter (R30) -/
  serial : Serial
  lanes : Vector LaneRec 6
  bankA : Vector Entry 16
  bankB : Vector Entry 16
  /-- active bank selector (R61) -/
  active : Bank
  /-- pending bank switch (R66) -/
  pendingSwitch : Option Index
  zones : Vector Zone 6
  /-- conversion in flight (R107) -/
  conv : Conversion
  /-- chip alarms, codes 8 to 13 in order (R172) -/
  chipAlarms : Vector Alarm 6
  /-- stop reason, an alarm code or 0 (R177) -/
  stopReason : Nat
  /-- the queue of commands that wait, first in, first out; the model's own field -/
  pending : List Instr
deriving DecidableEq, Repr

/-- Reasons a step can fault: none. The manual gives every command an effect in every state, so this type has no constructor
(nothing raises a fault; safe). -/
inductive Fault
deriving DecidableEq, Repr

/-- Reasons a step can be refused. -/
inductive Refusal where
  /-- Raised only by an arm of `exec` for a command that has no meaning yet; no arm does (safe). -/
  | notModelled (mnemonic : String)
deriving DecidableEq, Repr

/-- What a command answers. -/
abbrev Result := Host.Outcome State Fault Refusal

/-! ## The state after device reset -/

/-- No command planned. -/
def LanePlan.none : LanePlan := ⟨.none, .none, .none, .none, .none, .none⟩

/-- Lane alarms after device reset (R172, R178): latches clear, summaries on, stop-enables as the table gives. -/
def laneAlarmsReset : Vector Alarm 7 :=
  #v[⟨none, true, true⟩, ⟨none, true, true⟩, ⟨none, true, true⟩, ⟨none, true, false⟩, ⟨none, true, false⟩,
     ⟨none, true, true⟩, ⟨none, true, false⟩]

/-- Chip alarms after device reset (R172, R178). -/
def chipAlarmsReset : Vector Alarm 6 :=
  #v[⟨none, true, false⟩, ⟨none, true, false⟩, ⟨none, true, true⟩, ⟨none, true, false⟩, ⟨none, true, true⟩,
     ⟨none, true, true⟩]

/-- A lane record after device reset (R57, R31, R85, R129). -/
def LaneRec.reset : LaneRec where
  state := .idle
  assigned := 0
  changeover := none
  force := false
  autoPurge := false
  blind := 0
  silence := ⟨0, 0, 0, 0⟩
  openBatch := none
  lastBatch := 0
  held := none
  blindAnswer := false
  stationLost := false
  faultDue := false
  web := []
  counters := Vector.replicate 21 0
  alarms := laneAlarmsReset
  plan := .none

/-- A zone after device reset (R116). -/
def Zone.reset : Zone := ⟨0, 16, [], 0, .warming, 0⟩

/-- The part right after device reset: every value as the manual states it (R8, R9, R12, R24, R36, R57, R73, R116, R129, R142,
R143, R144, R146, R147, R178), the straps as assumption 1 says, nothing sent yet and no command waiting. -/
def State.reset : State where
  power := .running
  bypdrv := true
  nodeAddr := Config.strapAddress
  role := if Config.strapRoleHigh then .active else .monitor
  pendingRole := none
  buffer := []
  phase := .waiting
  cardViews := []
  ringOut := none
  lastIndex := none
  ring := ⟨0, 0, 0, 0, 0⟩
  slotMap := Vector.replicate 48 .unused
  stations := none
  timer := ⟨0, none, false⟩
  free := List.finRange 256
  gate := []
  serial := 0
  lanes := Vector.replicate 6 LaneRec.reset
  bankA := Vector.replicate 16 ⟨none, 0⟩
  bankB := Vector.replicate 16 ⟨none, 0⟩
  active := .A
  pendingSwitch := none
  zones := Vector.replicate 6 Zone.reset
  conv := ⟨0, 0, 16⟩
  chipAlarms := chipAlarmsReset
  stopReason := 0
  pending := []

end Sys2Proof.Machine
end

