-- ==== Sys2Proof/Machine/Ops.lean ====
section
/-! DEFINITION. The named operations on the state that the meanings share: lanes, recipe entries, the Tracking Store's
operations on card records, production counters, and the reached test. -/

namespace Sys2Proof.Machine

/-! ## Operation -/

/-- The part takes part in the ring: powered, out of reset and not in BYPASS (R142). -/
def State.onRing (s : State) : Bool := s.power = .running && s.role ≠ .bypass

/-! ## Lanes and zones -/

/-- The record of lane `l` (R38). -/
def State.lane (s : State) (l : Lane) : LaneRec := s.lanes[l]

/-- Replace the record of lane `l`. -/
def State.setLane (s : State) (l : Lane) (r : LaneRec) : State := { s with lanes := s.lanes.set l r }

/-- Change the record of lane `l`. -/
def State.updLane (s : State) (l : Lane) (f : LaneRec → LaneRec) : State := s.setLane l (f (s.lane l))

/-- Do something for each lane, in lane order. -/
def State.eachLane (s : State) (f : Lane → State → State) : State := (List.finRange 6).foldl (fun t l => f l t) s

/-- Every lane is IDLE. -/
def State.allIdle (s : State) : Bool := (List.finRange 6).all (fun l => (s.lane l).state = .idle)

/-- The zone of lane `l`. -/
def State.zone (s : State) (l : Lane) : Zone := s.zones[l]

/-- Replace zone `l`. -/
def State.setZone (s : State) (l : Lane) (z : Zone) : State := { s with zones := s.zones.set l z }

/-- The values of a Station Map; every field 0 while it is INVALID (R7, R8). -/
def mapOf (m : Option StationMap) : StationMap := m.getD ⟨0, 0, 0, 0, 0, 0, 0, 0, 0, 0, 0, 0⟩

/-- The Station Map's values (R7, R8). -/
def State.map (s : State) : StationMap := mapOf s.stations

/-! ## Indices -/

/-- The index `x` is reached at the frame for index `k` (R11). -/
def reached (x k : Index) : Bool := (k - x).toNat < 32768

/-- The position of a card at index `k` (R10). -/
def Card.position (c : Card) (k : Index) : Nat := (k - c.formed).toNat

/-! ## Recipe entries -/

/-- The other bank. -/
def Bank.other : Bank → Bank
  | .A => .B
  | .B => .A

/-- The entry of a bank (R61). -/
def State.entry (s : State) (b : Bank) (n : EntryNo) : Entry :=
  match b with
  | .A => s.bankA[n]
  | .B => s.bankB[n]

/-- Replace an entry. -/
def State.setEntry (s : State) (b : Bank) (n : EntryNo) (e : Entry) : State :=
  match b with
  | .A => { s with bankA := s.bankA.set n e }
  | .B => { s with bankB := s.bankB.set n e }

/-- The entry is VALID (R58). -/
def Entry.valid (e : Entry) : Bool := e.recipe.isSome

/-- The fields of an EMPTY entry: 0 throughout (R58). -/
def Recipe.zero : Recipe := ⟨0, 0, [], 0, 0, 0, 0, 0, 0, 0, 0, 0, 0, [], 0, .fixed⟩

/-- The fields of an entry as stored. -/
def Entry.fields (e : Entry) : Recipe := e.recipe.getD Recipe.zero

/-- The recipe values of a card, read through its recipe reference (R60). -/
def State.recipeOf (s : State) (c : Card) : Recipe := (s.entry c.bank c.entry).fields

/-- Change an entry's reference count (R62). -/
def State.updRefs (s : State) (b : Bank) (n : EntryNo) (f : Nat → Nat) : State :=
  s.setEntry b n { s.entry b n with refs := f (s.entry b n).refs }

/-! ## Reasons -/

/-- The code of a reason (R154). -/
def Reason.code : Reason → Nat
  | .loadShort => 1
  | .loadOver => 2
  | .inspectFail => 3
  | .weightOut => 4
  | .noCard => 5
  | .stationSilent => 6
  | .sealNoHeat => 7
  | .sealUnderdose => 8
  | .sealOverdose => 9
  | .sealUnconfirmed => 10
  | .forced => 11
  | .lanePurge => 12
  | .indexGap => 13

/-- Add a reason to a card (R21). -/
def Card.addReason (r : Reason) (c : Card) : Card :=
  if r ∈ c.reasons then c else { c with reasons := c.reasons ++ [r] }

/-- Add a reason when a condition holds. -/
def Card.addReasonIf (cond : Bool) (r : Reason) (c : Card) : Card := if cond then c.addReason r else c

/-- The first reason, the first to reach the empty set (R21). -/
def Card.firstReason (c : Card) : Option Reason := c.reasons.head?

/-! ## Production counters -/

/-- Increase counter `i` of a lane by `n`; counters wrap (R130). -/
def LaneRec.bump (i : Fin 21) (n : Nat) (r : LaneRec) : LaneRec :=
  { r with counters := r.counters.set i (r.counters[i] + BitVec.ofNat 32 n) }

/-- The number of the counter of a reason, 3 to 15 (R130). -/
def Reason.counter : Reason → Fin 21
  | .loadShort => 3
  | .loadOver => 4
  | .inspectFail => 5
  | .weightOut => 6
  | .noCard => 7
  | .stationSilent => 8
  | .sealNoHeat => 9
  | .sealUnderdose => 10
  | .sealOverdose => 11
  | .sealUnconfirmed => 12
  | .forced => 13
  | .lanePurge => 14
  | .indexGap => 15

/-- Count a rejected card: the rejected counter and the counter of its first reason (R121, R123, R130). -/
def LaneRec.countRejected (c : Card) (r : LaneRec) : LaneRec :=
  match c.firstReason with
  | some why => (r.bump 2 1).bump why.counter 1
  | none => r.bump 2 1

/-! ## The Tracking Store's operations -/

/-- Free the record of a card already taken off its list: its recipe reference count falls by 1 and its number joins the tail of
the free list (R27). -/
def State.freeRecord (s : State) (c : Card) : State :=
  let s := s.updRefs c.bank c.entry (· - 1)
  { s with free := s.free ++ [c.record] }

/-- Change every card on the web list of lane `l`. -/
def State.mapWeb (s : State) (l : Lane) (f : Card → Card) : State := s.updLane l (fun r => { r with web := r.web.map f })

/-- Change the card of lane `l`'s web list that was formed at index `i`; formed indices within a web list are distinct (R10). -/
def State.updCard (s : State) (l : Lane) (i : Index) (f : Card → Card) : State :=
  s.mapWeb l (fun c => if c.formed = i then f c else c)

/-- The card of a web list formed at index `i` (R10). -/
def findFormed (web : List Card) (i : Index) : Option Card := web.find? (fun c => c.formed = i)

/-- The card of lane `l` formed at index `i` (R10). -/
def State.cardFormed (s : State) (l : Lane) (i : Index) : Option Card := findFormed (s.lane l).web i

/-- The card of lane `l` at position `p` at index `k`, if the position is not blank (R10). -/
def State.cardAt (s : State) (l : Lane) (k : Index) (p : Nat) : Option Card := s.cardFormed l (k - BitVec.ofNat 16 p)

/-- The entries of lane `l` in a gate list, oldest first (R26). -/
def ofLane (l : Lane) (gate : List Card) : List Card := gate.filter (fun c => c.lane = l)

/-- The gate list entries of lane `l`, oldest first (R26). -/
def State.gateOf (s : State) (l : Lane) : List Card := ofLane l s.gate

/-! ## What a READ_CARD sees -/

/-- What a READ_CARD for the frame at this place sees of the state as it stands (R33, R34). -/
def State.cardView (s : State) (place : Nat) : CardView := ⟨place, s.lastIndex, s.stations, s.lanes.map LaneRec.web, s.gate⟩

/-- Change the kept views (R160: a READ_CARD sees every effect of the requests that arrived before it). -/
def State.eachView (s : State) (f : CardView → CardView) : State := { s with cardViews := s.cardViews.map f }

/-- What LANE PURGE of lane `l` with these cards on its web list does to a kept view: the same cards are marked in it (R44). A card is the
one of its serial (R30). -/
def CardView.purge (l : Lane) (web : List Card) (mark : Card → Card) (v : CardView) : CardView :=
  { v with webs := v.webs.set l (v.webs[l].map (fun c => if web.any (fun x => x.serial = c.serial) then mark c else c)) }

/-- What RESTART does to a kept view: no card, and no last index (R170). -/
def CardView.restart (v : CardView) : CardView := { v with lastIndex := none, webs := Vector.replicate 6 [], gate := [] }

/-! ## The gate list -/

/-- Take the cards that `p` selects off the gate list, and handle and free each, in list order (R26, R28). -/
def State.removeGate (s : State) (p : Card → Bool) (count : Card → LaneRec → LaneRec) : State :=
  (s.gate.filter p).foldl (fun t c => (t.updLane c.lane (count c)).freeRecord c)
    { s with gate := s.gate.filter (fun c => !p c) }

/-- The record numbers off the free list: the gate list's and the six web lists' (R23). -/
def State.inUse (s : State) : List Card := s.gate ++ (List.finRange 6).flatMap (fun l => (s.lane l).web)

/-- Card creation at stage 5 (R29): the head of the free list becomes the lane's new card. With no free record (which R23 rules
out) no card is created (assumption 9). -/
def State.createCard (s : State) (l : Lane) (k : Index) : State :=
  match s.free with
  | [] => s
  | n :: rest =>
    let entry := (s.lane l).assigned
    let card : Card :=
      { record := n, serial := s.serial, lane := l, formed := k, bank := s.active, entry := entry,
        sku := (s.entry s.active entry).fields.sku, commanded := ⟨false, false, false, false⟩, loadResult := none,
        inspection := none, placed := none, sealRec := none, reasons := [], gateIndex := none }
    let s := { s with free := rest, serial := s.serial + 1 }
    let s := s.updLane l (fun r => ({ r with web := r.web ++ [card] }).bump 0 1)
    s.updRefs s.active entry (· + 1)

end Sys2Proof.Machine
end

