-- ==== Sys2Proof/Machine/Flags.lean ====
section
/-! DEFINITION. The part's flags: alarm latches, summaries and the stop request (Alarms and the Stop Request), the ZONE_FAULT
condition, and entry to FAULT (R45), the one shared operation behind every cause of it. -/

namespace Sys2Proof.Machine

/-! ## Names and places of alarms -/

/-- The place of a lane alarm in its lane's list: its code less 1. -/
def LaneAlarm.place : LaneAlarm → Fin 7
  | .stationLost => 0
  | .zoneFault => 1
  | .rejectUnconfirmed => 2
  | .unexpectedReject => 3
  | .changeoverFailed => 4
  | .trackLost => 5
  | .planMismatch => 6

/-- The alarm code of a lane alarm (R172). -/
def LaneAlarm.code (a : LaneAlarm) : Nat := a.place + 1

/-- The place of a chip alarm: its code less 8. -/
def ChipAlarm.place : ChipAlarm → Fin 6
  | .ringOverrun => 0
  | .frameCrc => 1
  | .indexGap => 2
  | .indexRepeat => 3
  | .bankSwitchFailed => 4
  | .planConflict => 5

/-- The alarm code of a chip alarm (R172). -/
def ChipAlarm.code (a : ChipAlarm) : Nat := a.place + 8

/-- The lane places whose stop-enable is fixed on: REJECT_UNCONFIRMED and TRACK_LOST (R172). -/
def laneFixed (i : Nat) : Bool := i = 2 || i = 5

/-- The chip place whose stop-enable is fixed on: PLAN_CONFLICT (R172). -/
def chipFixed (i : Nat) : Bool := i = 5

/-! ## Conditions, summaries, stop request -/

/-- The latch is set. -/
def Alarm.latched (a : Alarm) : Bool := a.latch.isSome

/-- The latch reaches the stop request. -/
def Alarm.stops (a : Alarm) : Bool := a.latched && a.stopEn

/-- The latch reaches a summary. -/
def Alarm.shows (a : Alarm) : Bool := a.latched && a.summaryEn

/-- The ZONE_FAULT condition of lane `l` (R115). -/
def State.zoneFaultActive (s : State) (l : Lane) : Bool := (s.zone l).state = .fault && (s.lane l).state ≠ .idle

/-- The active indication of a lane alarm; an event alarm reads as never active (R172). -/
def State.laneActive (s : State) (l : Lane) (i : Nat) : Bool :=
  if i = 0 then (s.lane l).stationLost else if i = 1 then s.zoneFaultActive l else false

/-- The lane alarm summary of lane `l` (R176). -/
def State.laneSummary (s : State) (l : Lane) : Bool := (s.lane l).alarms.toList.any Alarm.shows

/-- The chip alarm summary (R176). -/
def State.chipSummary (s : State) : Bool := s.chipAlarms.toList.any Alarm.shows

/-- The codes of every latched alarm with stop-enable on, over all lanes and the chip. -/
def State.stopCodes (s : State) : List Nat :=
  (List.finRange 6).flatMap
      (fun l => ((s.lane l).alarms.toList.zipIdx.filter (fun p => p.1.stops)).map (fun p => p.2 + 1))
    ++ (s.chipAlarms.toList.zipIdx.filter (fun p => p.1.stops)).map (fun p => p.2 + 8)

/-- The stop request is present (R177). -/
def State.stopPresent (s : State) : Bool :=
  (List.finRange 6).any (fun l => (s.lane l).alarms.toList.any Alarm.stops) || s.chipAlarms.toList.any Alarm.stops

/-- The stop reason after masks or latches were changed other than by one latch: 0 when the request is absent, kept while it
stays present, and the lowest code among the stop-enabled latches when it becomes present (R177). -/
def State.settleStop (s : State) : State :=
  if s.stopPresent then
    if s.stopReason = 0 then { s with stopReason := (s.stopCodes.min?).getD 0 } else s
  else { s with stopReason := 0 }

/-! ## Latching -/

/-- Set a clear latch with its data, five bytes; a set latch and its data stay as they are (R173). -/
def Alarm.set (data : List Byte) (a : Alarm) : Alarm :=
  match a.latch with
  | none => { a with latch := some (padTo 5 data) }
  | some _ => a

/-- The stop reason after a latch with this code is made: the code if it makes the stop request present (R177). -/
def reasonAfterLatch (present : Bool) (a : Alarm) (code reason : Nat) : Nat :=
  if !present && !a.latched && a.stopEn then code else reason

/-- Latch a lane alarm (R173). -/
def State.latchLane (s : State) (l : Lane) (kind : LaneAlarm) (data : List Byte) : State :=
  let a := (s.lane l).alarms[kind.place]
  let reason := reasonAfterLatch s.stopPresent a kind.code s.stopReason
  let s := s.updLane l (fun r => { r with alarms := r.alarms.set kind.place (a.set data) })
  { s with stopReason := reason }

/-- Latch a chip alarm (R173). -/
def State.latchChip (s : State) (kind : ChipAlarm) (data : List Byte) : State :=
  let a := s.chipAlarms[kind.place]
  { s with
    chipAlarms := s.chipAlarms.set kind.place (a.set data)
    stopReason := reasonAfterLatch s.stopPresent a kind.code s.stopReason }

/-! ## Entry to FAULT -/

/-- A lane in RUN or DRAIN enters FAULT: the pending changeover is dropped, every other field is kept. A lane in FAULT or IDLE
stays as it is (R45). -/
def LaneRec.enterFault (r : LaneRec) : LaneRec :=
  match r.state with
  | .run | .drain => { r with state := .fault, changeover := none }
  | .fault | .idle => r

/-- ZONE_FAULT of lane `l` becomes active: it is latched with the zone's Z and invalid streak (R115, R172), and a lane in RUN or
DRAIN enters FAULT, at once, or at the end of its pitch step when one is in progress (R46). -/
def State.zoneFaultBegins (s : State) (l : Lane) (inStep : Bool) : State :=
  let z := s.zone l
  let s := s.latchLane l .zoneFault (nat16 z.z ++ [byteOf z.streak])
  if inStep then s.updLane l (fun r => { r with faultDue := r.state = .run || r.state = .drain })
  else s.updLane l LaneRec.enterFault

/-- The end of a pitch step: a lane whose ZONE_FAULT became active during it enters FAULT now, unless stage 7 has taken it to
IDLE (R46). -/
def State.faultAfterStep (s : State) (l : Lane) : State :=
  s.updLane l (fun r => if r.faultDue then { r.enterFault with faultDue := false } else r)

end Sys2Proof.Machine
end

