-- ==== Sys2Proof/Machine/Operands.lean ====
section
/-! DEFINITION. The layouts: slots, command and report payloads, use codes, recipe and Station Map fields, and the codes that
stand in them (R153 to R159, R167). -/

namespace Sys2Proof.Machine

/-! ## Codes -/

/-- Role codes (R156, R164). -/
def Role.code : Role → Byte
  | .bypass => 0
  | .monitor => 1
  | .active => 2

/-- A pending role's code, 0 for none (R164, R166). -/
def pendingRoleCode (r : Option Role) : Byte := (r.map Role.code).getD 0

/-- Lane state codes (R156). -/
def LaneState.code : LaneState → Nat
  | .idle => 0
  | .run => 1
  | .drain => 2
  | .fault => 3

/-- Bank codes (R158). -/
def Bank.code : Bank → Byte
  | .A => 0
  | .B => 1

/-- The bank a byte names (R158). -/
def bankOf (b : Byte) : Option Bank := if b = 0 then some .A else if b = 1 then some .B else none

/-- Close mode codes (R158). -/
def CloseMode.code : CloseMode → Byte
  | .fixed => 1
  | .runEnd => 2
  | .runEndMark => 3

/-- The close mode a byte names (R158, R59). -/
def closeModeOf (b : Byte) : Option CloseMode :=
  if b = 1 then some .fixed else if b = 2 then some .runEnd else if b = 3 then some .runEndMark else none

/-- Zone state codes (R159). -/
def ZoneState.code : ZoneState → Byte
  | .warming => 1
  | .ready => 2
  | .holding => 3
  | .fault => 4

/-- Seal outcome codes (R159). -/
def SealOutcome.code : SealOutcome → Byte
  | .ok => 1
  | .clampedLow => 2
  | .clampedHigh => 3
  | .noHeat => 4
  | .noWindow => 5
  | .underdose => 6
  | .overdose => 7

/-- Station kind codes (R158). -/
def Kind.code : Kind → Nat
  | .load => 0
  | .inspect => 1
  | .card => 2
  | .sealing => 3
  | .gate => 4
  | .stack => 5

/-- The station kind a code names (R158). -/
def kindOf (n : Nat) : Option Kind :=
  match n with
  | 0 => some .load
  | 1 => some .inspect
  | 2 => some .card
  | 3 => some .sealing
  | 4 => some .gate
  | 5 => some .stack
  | _ => none

/-- Command tags (R153). -/
def Kind.commandTag : Kind → Byte
  | .load => 0x10
  | .inspect => 0x11
  | .card => 0x12
  | .sealing => 0x13
  | .gate => 0x14
  | .stack => 0x15

/-- Report tags (R153). STACK has no report. -/
def Kind.reportTag : Kind → Option Byte
  | .load => some 0x20
  | .inspect => some 0x21
  | .card => some 0x22
  | .sealing => some 0x23
  | .gate => some 0x24
  | .stack => none

/-- Stacker event kind codes (R154). -/
def StackEventKind.code : StackEventKind → Byte
  | .add => 1
  | .closeFull => 2
  | .closeShort => 3
  | .closeChangeover => 4
  | .closeEmptyEnd => 5

/-- The lane a byte names (section 4.1 of the scope chapter). -/
def laneOf (n : Nat) : Option Lane := if h : n < 6 then some ⟨n, h⟩ else none

/-- The entry a byte names (R61). -/
def entryOf (n : Nat) : Option EntryNo := if h : n < 16 then some ⟨n, h⟩ else none

/-! ## Cycle frames and slots -/

/-- Slot count of a cycle frame (R153). -/
def slotCount (f : Frame) : Nat := natAt f 1

/-- Index number of a cycle frame (R153). -/
def frameIndex (f : Frame) : Index := word16 f 2

/-- The sixteen bytes of slot `i` (R153). -/
def slotBytes (f : Frame) (i : Nat) : List Byte := (f.drop (8 + 16 * i)).take 16

/-- The tag of a slot (R153). -/
def slotTag (slot : List Byte) : Byte := byteAt slot 0

/-- The payload of a slot (R153). -/
def slotPayload (slot : List Byte) : List Byte := slot.drop 2

/-- The tag NONE (R153). -/
def tagNone : Byte := 0x00

/-- The tag CHIP_STATUS (R153). -/
def tagStatus : Byte := 0x30

/-- A slot written by the part: tag, node address as writer, payload (R150, R152, R153). -/
def makeSlot (tag : Byte) (addr : BitVec 6) (payload : List Byte) : List Byte :=
  tag :: addr.zeroExtend 8 :: padTo 14 payload

/-- A frame with slot `i` replaced. -/
def putSlot (f : Frame) (i : Nat) (slot : List Byte) : Frame := patch f (8 + 16 * i) slot

/-- The slot number that the Slot Map gives a use, if it is mapped (R147). -/
def State.slotOf (s : State) (u : SlotUse) : Option Nat := s.slotMap.toList.findIdx? (fun v => v = u)

/-- The report slot of a kind and lane as it is read: empty, which reads as tag NONE, where the use is not mapped or the slot lies
beyond the frame's slot count (R74, R149). -/
def State.reportSlot (s : State) (f : Frame) (k : Kind) (l : Lane) : List Byte :=
  match s.slotOf (.report k l) with
  | some i => if i < slotCount f then slotBytes f i else []
  | none => []

/-- The slot holds a report of this kind with this serial (R76). -/
def reportMatches (slot : List Byte) (k : Kind) (serial : Serial) : Bool :=
  some (slotTag slot) = k.reportTag && word24 (slotPayload slot) 0 = serial

/-- A "yes" field is yes when it holds 0x01 (R153). -/
def yesField (b : Byte) : Bool := b = 1

/-! ## Command payloads -/

/-- The action code of a command with SKIP (R154). -/
def actionCode (go : Bool) : Byte := boolByte go

/-- The four bytes of a stacker event (R154). -/
def StackEvent.bytes (e : StackEvent) : List Byte := e.kind.code :: bytes16 e.number ++ [byteOf e.count]

/-- A reason's code, 0 for none (R154, R159). -/
def reasonCode (r : Option Reason) : Nat := (r.map Reason.code).getD 0

/-- The fourteen payload bytes of a command (R154). -/
def Command.payload : Command → List Byte
  | .load go serial cavities counts => padTo 14 (actionCode go :: bytes24 serial ++ byteOf cavities :: pack8 counts)
  | .inspect go serial cavities sku => padTo 14 (actionCode go :: bytes24 serial ++ byteOf cavities :: bytes32 sku)
  | .card go serial sku => padTo 14 (actionCode go :: bytes24 serial ++ bytes32 sku)
  | .sealing go serial dwell ps => padTo 14 (actionCode go :: bytes24 serial ++ nat16 dwell ++ padTo 8 (ps.map byteOf))
  | .gate reject serial reason =>
    padTo 14 ((if reject then 0x02 else 0x01) :: bytes24 serial ++ [byteOf (reasonCode reason)])
  | .stack events => padTo 14 (byteOf events.length :: events.flatMap StackEvent.bytes)

/-- The planned command of a kind (R134). -/
def LanePlan.get (p : LanePlan) : Kind → Option Command
  | .load => p.load
  | .inspect => p.inspect
  | .card => p.card
  | .sealing => p.sealing
  | .gate => p.gate
  | .stack => p.stack

/-- The compared fields of a slot's payload equal those of the plan (R151): action and serial; in addition D and p0 to p7 of a
SEAL_CMD; the event count and every event of a STACK_CMD. -/
def comparedEqual (k : Kind) (plan slot : List Byte) : Bool :=
  match k with
  | .sealing => plan.take 14 = slot.take 14
  | .stack => plan.take (1 + 4 * natAt plan 0) = slot.take (1 + 4 * natAt plan 0)
  | .load | .inspect | .card | .gate => plan.take 4 = slot.take 4

/-! ## Use codes (R158) -/

/-- The code of a use. -/
def SlotUse.code : SlotUse → Byte
  | .unused => 0
  | .command k l => byteOf (0x40 + 8 * k.code + l)
  | .report k l => byteOf (0x80 + 8 * k.code + l)
  | .status => 0xC0

/-- A use code has bits set that its use does not have (R148, R158). -/
def useMalformed (b : Byte) : Bool := (b.toNat / 64 = 0 || b.toNat / 64 = 3) && b.toNat % 64 ≠ 0

/-- The use a code names; `none` where a lane or kind is out of range or a report has kind STACK (R148). -/
def useOf (b : Byte) : Option SlotUse :=
  let n := b.toNat
  if n / 64 = 0 then some .unused
  else if n / 64 = 3 then some .status
  else
    match kindOf (n / 8 % 8), laneOf (n % 8) with
    | some k, some l =>
      if n / 64 = 1 then some (.command k l) else if k = .stack then none else some (.report k l)
    | _, _ => none

/-! ## Station Map fields (R158) -/

/-- The fields of a SET_STATIONS operand. -/
def stationsOf (d : List Byte) : StationMap where
  a := natAt d 0
  b := natAt d 1
  c := natAt d 2
  d := natAt d 3
  e := natAt d 4
  g := natAt d 5
  silenceLimit := natAt d 6
  dwellFraction := natAt d 7
  motion := nat16At d 8
  pMin := natAt d 10
  pMax := natAt d 11
  nominalPitch := nat16At d 12

/-- The fields of a Station Map as READ_STATIONS returns them. -/
def StationMap.bytes (m : StationMap) : List Byte :=
  [byteOf m.a, byteOf m.b, byteOf m.c, byteOf m.d, byteOf m.e, byteOf m.g, byteOf m.silenceLimit, byteOf m.dwellFraction]
    ++ nat16 m.motion ++ [byteOf m.pMin, byteOf m.pMax] ++ nat16 m.nominalPitch

/-- Every field in its range, the offsets strictly increasing, Pmin not above Pmax (R2, R6). -/
def StationMap.inRange (m : StationMap) : Bool :=
  0 < m.a && m.a < m.b && m.b < m.c && m.c < m.d && m.d < m.e && m.e ≤ 31 && 1 ≤ m.g && m.g ≤ 3
    && 1 ≤ m.silenceLimit && m.silenceLimit ≤ 15 && 32 ≤ m.dwellFraction && m.dwellFraction ≤ 224 && m.motion ≤ 2000
    && 1 ≤ m.pMin && m.pMin ≤ m.pMax && m.pMax ≤ 255 && 100 ≤ m.nominalPitch && m.nominalPitch ≤ 65535

/-! ## Recipe fields (R158) -/

/-- The ranges of R58 and R59 for a recipe and the expected counts of its cavities. -/
def Recipe.inRange (r : Recipe) : Bool :=
  1 ≤ r.cavities && r.cavities ≤ 8 && r.expected.length = r.cavities
    && r.expected.all (fun n => decide (1 ≤ n) && decide (n ≤ 15))
    && r.wMin ≤ 65534 && r.wMax ≤ 65534 && r.wMin ≤ r.wMax && 60 ≤ r.ta && r.ta ≤ 220 && 50 ≤ r.eMin && r.eMin ≤ 500
    && 1000 ≤ r.heatDose && r.heatDose ≤ 60000 && 20 ≤ r.dMin && r.dMin ≤ r.dMax && r.dMax ≤ 3000
    && r.tolU ≤ 64 && r.tolO ≤ 255 && 12 ≤ r.pb && r.pb ≤ 225
    && r.offsets.length = 8 && r.offsets.all (fun o => decide (-63 ≤ o) && decide (o ≤ 63)) && 1 ≤ r.batchSize && r.batchSize ≤ 250

/-- The recipe that the fields from byte `i` on hold, where byte `i` is the first of the SKU code, `none` where the close mode code
names no mode (R59). The counts beyond the cavity count are dropped (R59). -/
def recipeOf (d : List Byte) (i : Nat) : Option Recipe :=
  (closeModeOf (byteAt d (i + 34))).map (fun mode =>
    { sku := word32 d i, cavities := natAt d (i + 4), expected := (counts8 d (i + 5)).take (natAt d (i + 4)),
      wMin := nat16At d (i + 9), wMax := nat16At d (i + 11), ta := natAt d (i + 13), eMin := nat16At d (i + 14),
      heatDose := nat16At d (i + 16), dMin := nat16At d (i + 18), dMax := nat16At d (i + 20), tolU := natAt d (i + 22),
      tolO := natAt d (i + 23), pb := natAt d (i + 24),
      offsets := (List.range 8).map (fun j => signedOf (byteAt d (i + 25 + j))),
      batchSize := natAt d (i + 33), closeMode := mode })

/-- The 35 bytes of a recipe's fields (R158). -/
def Recipe.bytes (r : Recipe) : List Byte :=
  bytes32 r.sku ++ [byteOf r.cavities] ++ pack8 r.expected ++ nat16 r.wMin ++ nat16 r.wMax ++ [byteOf r.ta] ++ nat16 r.eMin
    ++ nat16 r.heatDose ++ nat16 r.dMin ++ nat16 r.dMax ++ [byteOf r.tolU, byteOf r.tolO, byteOf r.pb]
    ++ padTo 8 (r.offsets.map signedByte) ++ [byteOf r.batchSize, r.closeMode.code]

/-- The recipe fields of an entry: 35 zero bytes while it is EMPTY (R65). -/
def Entry.bytes (e : Entry) : List Byte :=
  match e.recipe with
  | some r => r.bytes
  | none => List.replicate 35 0

/-- EMPTY 0, VALID 1 (R158). -/
def Entry.stateByte (e : Entry) : Byte := boolByte e.valid

end Sys2Proof.Machine
end

