-- ==== Sys2Proof/Machine/Gate.lean ====
section
/-! DEFINITION. Gate expiry at stage 2 (R123), the punch decision at stage 4 (R117 to R120), stacker events and batches (R125,
R126), and the run-end close (R127). -/

namespace Sys2Proof.Machine

/-! ## Stage 2 -/

/-- The gate entry's window has ended at the frame for index `k` (R123). -/
def expiredAt (g : Nat) (k : Index) (c : Card) : Bool :=
  match c.gateIndex with
  | some i => reached (i + BitVec.ofNat 16 g) k
  | none => false

/-- Count an expired entry (R123). -/
def LaneRec.countExpired (c : Card) (r : LaneRec) : LaneRec := (r.countRejected c).bump 17 1

/-- Stage 2: expire lane `l`'s gate entries whose window has ended; the first expired is latched (R123). -/
def stage2 (k : Index) (l : Lane) (s : State) : State :=
  if (s.lane l).state = .idle then s
  else
    let p := fun (c : Card) => c.lane = l && expiredAt s.map.g k c
    match s.gate.filter p with
    | [] => s
    | first :: _ =>
      (s.removeGate p LaneRec.countExpired).latchLane l .rejectUnconfirmed
        (bytes24 first.serial ++ bytes16 (first.gateIndex.getD 0))

/-! ## Batches -/

/-- The stacker events for a passed card, with the lane's batch fields and batches-closed counter (R125, R126). -/
def LaneRec.passEvents (c : Card) (recipe : Recipe) (r : LaneRec) : LaneRec × List StackEvent :=
  let (r, closing) :=
    match r.openBatch with
    | some b =>
      if b.sku = c.sku then (r, [])
      else (({ r with openBatch := none }).bump 20 1, [(⟨.closeChangeover, b.number, b.count⟩ : StackEvent)])
    | none => (r, [])
  let (r, b) :=
    match r.openBatch with
    | some b => (r, b)
    | none =>
      let n := r.lastBatch + 1
      ({ r with lastBatch := n }, (⟨c.sku, recipe.batchSize, recipe.closeMode, n, 0⟩ : Batch))
  let b := { b with count := b.count + 1 }
  let add : StackEvent := ⟨.add, b.number, b.count⟩
  if b.count = b.size then
    (({ r with openBatch := none }).bump 20 1, closing ++ [add, ⟨.closeFull, b.number, b.size⟩])
  else ({ r with openBatch := some b }, closing ++ [add])

/-- The run-end close of a lane entering IDLE (R127). `mode` is the close mode of the assigned entry in the active bank, `none` where
that entry is EMPTY; `fullPlanned` says that stage 4 of the same step planned a CLOSE_FULL. -/
def LaneRec.runEndClose (mode : Option CloseMode) (fullPlanned : Bool) (r : LaneRec) : LaneRec × Option StackEvent :=
  match r.openBatch with
  | some b =>
    match b.mode with
    | .fixed => (r, none)
    | .runEnd | .runEndMark => (({ r with openBatch := none }).bump 20 1, some ⟨.closeShort, b.number, b.count⟩)
  | none =>
    match mode with
    | some .runEndMark => (r, if fullPlanned then none else some ⟨.closeEmptyEnd, r.lastBatch, 0⟩)
    | some .fixed | some .runEnd | none => (r, none)

/-- The close mode of a lane's assigned entry in the active bank (R61, R127). -/
def State.assignedMode (s : State) (l : Lane) : Option CloseMode :=
  (s.entry s.active (s.lane l).assigned).recipe.map Recipe.closeMode

/-- Entry to IDLE, from DRAIN or by LANE CLEAR: the pending changeover is dropped and the blind-answer flag cleared (R43, R120). -/
def LaneRec.enterIdle (r : LaneRec) : LaneRec := { r with state := .idle, changeover := none, blindAnswer := false }

/-! ## Stage 4 -/

/-- Plan the gate command of a lane. -/
def LaneRec.planGate (reject : Bool) (serial : Serial) (reason : Option Reason) (r : LaneRec) : LaneRec :=
  { r with plan := { r.plan with gate := some (.gate reject serial reason) } }

/-- The card at the head of a web list is decided REJECT: FORCED is added where the force flag is set, and the record moves to the
gate list with its gate entry (R118). -/
def State.rejectAtPunch (s : State) (k : Index) (l : Lane) (c : Card) : State :=
  let c := (c.addReasonIf (s.lane l).force .forced)
  let s := s.updLane l (fun r => { r with web := r.web.tail }.planGate true c.serial c.firstReason)
  { s with gate := s.gate ++ [{ c with gateIndex := some k }] }

/-- The card at the head of a web list is decided PASS: events, passed counter, freeing; answers the events too (R119). -/
def State.passAtPunch (s : State) (l : Lane) (c : Card) : State × List StackEvent :=
  let (r, events) := (s.lane l).passEvents c (s.recipeOf c)
  let r := ({ r with web := r.web.tail }.bump 1 1).planGate false c.serial none
  ((s.setLane l r).freeRecord c, events)

/-- The punch decision at index `k` (R117, R120), with the stacker events it plans. -/
def State.punch (s : State) (k : Index) (l : Lane) : State × List StackEvent :=
  if 0 < (s.lane l).blind then
    (s.updLane l (fun r => { r with blind := r.blind - 1, blindAnswer := true }.planGate true 0 none), [])
  else
    let s := s.updLane l (fun r => { r with blindAnswer := false })
    match (s.lane l).web with
    | [] => (s, [])
    | c :: _ =>
      if c.position k = s.map.e then
        if c.reasons = [] ∧ (s.lane l).force = false then s.passAtPunch l c else (s.rejectAtPunch k l c, [])
      else (s, [])

/-- Stage 4: the punch decision, and the STACK_CMD with the held run-end event first (R48, R117, R128). DESIGN CHOICE (assumption 22, unsafe):
it is so at lost track too, where R140 plans the STACK_CMD of a lane in FAULT with no event, read as no event of the step itself. -/
def stage4 (k : Index) (l : Lane) (s : State) : State :=
  let before := s.lane l
  let (s, events) := s.punch k l
  let plan := if before.state = .idle ∧ before.held = none then none else some (Command.stack (before.held.toList ++ events))
  s.updLane l (fun r => { r with held := none, plan := { r.plan with stack := plan } })

/-- The events of a planned STACK_CMD. -/
def plannedEvents (p : Option Command) : List StackEvent :=
  match p with
  | some (.stack events) => events
  | _ => []

end Sys2Proof.Machine
end

