-- ==== Sys2Proof/Machine/Timer.lean ====
section
/-! DEFINITION. The Pitch Timer (section 1.3) and the classing of a cycle frame by its step distance (R9). -/

namespace Sys2Proof.Machine

/-- The class of a good cycle frame (R9). -/
inductive FrameClass where
  /-- no last index -/
  | first
  /-- step distance 1 -/
  | next
  /-- step distance 0, a repeat -/
  | again
  /-- step distance 2 to 8 -/
  | gap
  /-- step distance 9 to 65535 -/
  | lost
deriving DecidableEq, Repr

/-- Class a frame of index `k` by its step distance from the last index (R9). -/
def classify (last : Option Index) (k : Index) : FrameClass :=
  match last with
  | none => .first
  | some l =>
    let d := (k - l).toNat
    if d = 0 then .again else if d = 1 then .next else if d ≤ 8 then .gap else .lost

/-- One tick of 0.1 ms: the count advances and holds at 65535 (R12). -/
def PitchTimer.tick (t : PitchTimer) : PitchTimer := { t with count := min (t.count + 1) 65535 }

/-- Fold a capture into the average, or refuse it as a stall (R14, R15). -/
def PitchTimer.offer (capture : Nat) (t : PitchTimer) : PitchTimer :=
  match t.average with
  | none =>
    if capture < 65535 then { t with average := some (max capture 100), stall := false } else { t with stall := true }
  | some p =>
    if capture ≤ 4 * p ∧ capture < 65535 then
      let moved := (p : Int) + ((capture : Int) - (p : Int)).tdiv 4
      { t with average := some (max 100 (min 65535 moved.toNat)), stall := false }
    else { t with stall := true }

/-- What a good cycle frame does to the timer when it is taken for processing (R13, R15). -/
def PitchTimer.frame (cls : FrameClass) (t : PitchTimer) : PitchTimer :=
  match cls with
  | .next => { t.offer t.count with count := 0 }
  | .first | .again | .gap | .lost => { t with count := 0, stall := false }

/-- The pitch period the Seal Calculator uses: the average, or the nominal pitch while there is none (R16). -/
def State.pitch (s : State) : Nat := s.timer.average.getD s.map.nominalPitch

/-- One tick of the 0.1 ms clock, which is what a step does when no command waits (assumption 4). The count runs in every role
but BYPASS, out of reset (R12). -/
def State.tick (s : State) : State := if s.onRing then { s with timer := s.timer.tick } else s

/-- PITCH_COUNT_SATURATION (R12): the ticks up to saturation pass, and the count stands at 65535 until the next restart. -/
def execPitchCountSaturation (s : State) : Result :=
  .next (if s.onRing then { s with timer := { s.timer with count := 65535 } } else s)

end Sys2Proof.Machine
end

