-- ==== Sys2Proof/Machine/Seal.lean ====
section
/-! DEFINITION. The seal dose calculation (R91 to R102) and the recheck on the seal report (R103, R104), as functions of their
inputs. -/

namespace Sys2Proof.Machine

/-- The excess: zone temperature above the activation temperature, tenths of °C, signed (R93). -/
def sealExcess (z : Nat) (r : Recipe) : Int := (z : Int) - 10 * (r.ta : Int)

/-- The raw dwell: 10 × H / E rounded up (R94). -/
def rawDwell (r : Recipe) (excess : Nat) : Nat := (10 * r.heatDose + excess - 1) / excess

/-- The seal window W, signed (R95). -/
def sealWindow (pitch : Nat) (m : StationMap) : Int := ((pitch * m.dwellFraction / 2560 : Nat) : Int) - (m.motion : Int)

/-- Step 5: the commanded dwell and the outcome before the dose is judged (R96). -/
def clampDwell (r : Recipe) (window raw : Nat) : Nat × SealOutcome :=
  if raw < r.dMin then (r.dMin, .clampedLow)
  else if r.dMax < raw then (min r.dMax window, .clampedHigh)
  else if window < raw then (window, .clampedHigh)
  else (raw, .ok)

/-- The dose a dwell delivers, truncated (R97, R104). -/
def dose (dwell excess : Nat) : Nat := dwell * excess / 10

/-- The underdose check, at full width (R97, R104). -/
def underdosed (r : Recipe) (a : Nat) : Bool := a * 256 < r.heatDose * (256 - r.tolU)

/-- The overdose check (R98). -/
def overdosed (r : Recipe) (a : Nat) : Bool := r.heatDose * (256 + r.tolO) < a * 256

/-- Steps 6 and 7: the outcome once the dose has been judged (R97, R98). -/
def judgeDose (r : Recipe) (excess : Nat) (d : Nat × SealOutcome) : SealOutcome :=
  let a := dose d.1 excess
  if underdosed r a then .underdose
  else if d.2 = .clampedLow ∧ overdosed r a then .overdose
  else d.2

/-- The zone states usable for sealing (R93, R110). -/
def ZoneState.usable : ZoneState → Bool
  | .ready | .holding => true
  | .warming | .fault => false

/-- The calculation, steps 1 to 7: the commanded dwell (0 for SKIP) and the outcome (R93 to R99). -/
def sealDwell (r : Recipe) (m : StationMap) (pitch : Nat) (zs : ZoneState) (z : Nat) : Nat × SealOutcome :=
  let excess := sealExcess z r
  if !zs.usable || excess < (r.eMin : Int) then (0, .noHeat)
  else
    let window := sealWindow pitch m
    if window < (r.dMin : Int) then (0, .noWindow)
    else
      let d := clampDwell r window.toNat (rawDwell r excess.toNat)
      (d.1, judgeDose r excess.toNat d)

/-- The outcome commands a stroke (R99). -/
def SealOutcome.strokes : SealOutcome → Bool
  | .ok | .clampedLow | .clampedHigh | .underdose | .overdose => true
  | .noHeat | .noWindow => false

/-- The reason an outcome adds (R99). -/
def SealOutcome.reason : SealOutcome → Option Reason
  | .ok | .clampedLow | .clampedHigh => none
  | .underdose | .noWindow => some .sealUnderdose
  | .overdose => some .sealOverdose
  | .noHeat => some .sealNoHeat

/-- The seal record a calculation creates (R102). -/
def sealRecord (r : Recipe) (m : StationMap) (pitch : Nat) (zs : ZoneState) (z : Nat) : SealRecord :=
  let d := sealDwell r m pitch zs z
  { z := z, excess := sealExcess z r, dwell := d.1, outcome := d.2, achieved := none, contact := none }

/-- Segment duration `i` of a dwell (R100, R35). -/
def segmentDuration (d i : Nat) : Nat := d * (i + 1) / 8 - d * i / 8

/-- Segment pressure for an offset, before the clamp, held in 9 bits, rounded half up (R101). -/
def rawPressure (pb : Nat) (offset : Int) : Nat := (((pb : Int) * (128 + offset) + 64) / 128).toNat % 512

/-- A segment pressure clamped into the Station Map's limits (R101). -/
def segmentPressure (m : StationMap) (pb : Nat) (offset : Int) : Nat :=
  let p := rawPressure pb offset
  if p < m.pMin then m.pMin else if m.pMax < p then m.pMax else p

/-- The pressure profile of a stroke (R101). -/
def pressures (m : StationMap) (r : Recipe) : List Nat := r.offsets.map (segmentPressure m r.pb)

/-- The recheck of an achieved dwell against the stored excess (R104). -/
def recheckFails (r : Recipe) (sr : SealRecord) (achieved : Nat) : Bool := underdosed r (dose achieved sr.excess.toNat)

end Sys2Proof.Machine
end

