-- ==== Sys2Proof/Machine/Reports.lean ====
section
/-! DEFINITION. Stage 1 of the pitch step: report matching, result checks, silence counting, STATION_LOST (Station Commands and
Reports, R74 to R85), and the recheck on the seal report (R103, R104). -/

namespace Sys2Proof.Machine

/-- The outcome of one kind's report in one frame (R75, R76, R84). -/
inductive Verdict where
  | notDue
  | answered
  | silent
deriving DecidableEq, Repr

/-- The silence counter after a verdict (R84). -/
def silenceAfter (v : Verdict) (n : Nat) : Nat :=
  match v with
  | .notDue => n
  | .answered => 0
  | .silent => min (n + 1) 15

/-- The offset of the station of a kind (R3); the stacker has none. -/
def StationMap.offset (m : StationMap) : Kind → Nat
  | .load => m.a
  | .inspect => m.b
  | .card => m.c
  | .sealing => m.d
  | .gate => m.e
  | .stack => 0

/-- The kind is a member of the commanded set (R19). -/
def Commanded.has (c : Commanded) : Kind → Bool
  | .load => c.load
  | .inspect => c.inspect
  | .card => c.card
  | .sealing => c.sealing
  | .gate | .stack => false

/-- The formed index of the expected card of a station kind at frame `k` (R75). -/
def State.expectedFormed (s : State) (kind : Kind) (k : Index) : Index := k - 1 - BitVec.ofNat 16 (s.map.offset kind)

/-- The expected card, when its report is due: it exists and its kind is in its commanded set (R75). -/
def State.dueCard (s : State) (l : Lane) (kind : Kind) (k : Index) : Option Card :=
  (s.cardFormed l (s.expectedFormed kind k)).filter (fun c => c.commanded.has kind)

/-! ## What an accepted report does -/

/-- The counts of a LOAD_RPT for a card's cavities (R78). -/
def loadedCounts (r : Recipe) (payload : List Byte) : List Nat := (counts8 payload 3).take r.cavities

/-- An accepted LOAD_RPT (R78). -/
def Card.acceptLoad (r : Recipe) (payload : List Byte) (c : Card) : Card :=
  let counts := loadedCounts r payload
  let pairs := counts.zip r.expected
  ({ c with loadResult := some counts }.addReasonIf (pairs.any (fun p => p.1 < p.2)) .loadShort).addReasonIf
    (pairs.any (fun p => p.2 < p.1)) .loadOver

/-- The verdicts of an INSPECT_RPT for a card's cavities, bit 7 cavity 0, 1 = FAIL (R79, R155). -/
def inspectFails (r : Recipe) (payload : List Byte) : List Bool :=
  (List.range r.cavities).map (fun j => bitOf (byteAt payload 3) (7 - j))

/-- The weight of an INSPECT_RPT, 65535 = not measured (R79, R155). -/
def inspectWeight (payload : List Byte) : Option Nat :=
  if nat16At payload 4 = 65535 then none else some (nat16At payload 4)

/-- The weight is outside the recipe's window; a window of 0/0 is no check (R58, R79). -/
def weightOutside (r : Recipe) (w : Option Nat) : Bool :=
  if r.wMin = 0 ∧ r.wMax = 0 then false
  else
    match w with
    | none => true
    | some n => n < r.wMin || r.wMax < n

/-- An accepted INSPECT_RPT (R79). -/
def Card.acceptInspect (r : Recipe) (payload : List Byte) (c : Card) : Card :=
  let fails := inspectFails r payload
  let weight := inspectWeight payload
  ({ c with inspection := some ⟨fails, weight⟩ }.addReasonIf (fails.any (fun b => b)) .inspectFail).addReasonIf
    (weightOutside r weight) .weightOut

/-- An accepted CARD_RPT (R80). -/
def Card.acceptCard (payload : List Byte) (c : Card) : Card :=
  let yes := yesField (byteAt payload 3)
  { c with placed := some yes }.addReasonIf (!yes) .noCard

/-- An accepted SEAL_RPT: the achieved dwell and contact are written, and contact, pressure and dose judged (R103, R104). -/
def Card.acceptSeal (r : Recipe) (payload : List Byte) (c : Card) : Card :=
  let contact := yesField (byteAt payload 3)
  let pressureOk := yesField (byteAt payload 4)
  let achieved := nat16At payload 5
  match c.sealRec with
  | none => c
  | some sr =>
    let c := { c with sealRec := some { sr with achieved := some achieved, contact := some contact } }
    if contact && pressureOk then c.addReasonIf (recheckFails r sr achieved) .sealUnderdose
    else c.addReason .sealUnconfirmed

/-- An accepted report of a kind (R78 to R81). -/
def Card.accept (kind : Kind) (r : Recipe) (payload : List Byte) (c : Card) : Card :=
  match kind with
  | .load => c.acceptLoad r payload
  | .inspect => c.acceptInspect r payload
  | .card => c.acceptCard payload
  | .sealing => c.acceptSeal r payload
  | .gate | .stack => c

/-- What silence adds to the expected card (R81, R82). -/
def silentReason (kind : Kind) : Reason := if kind = .sealing then .sealUnconfirmed else .stationSilent

/-- The verdict of an accepted report for the silence counter: a seal report with contact "no" counts as silence (R81, R84). -/
def acceptedVerdict (kind : Kind) (payload : List Byte) : Verdict :=
  if kind = .sealing ∧ yesField (byteAt payload 3) = false then .silent else .answered

/-- Set the silence counter of a kind. -/
def Silence.upd (kind : Kind) (f : Nat → Nat) (s : Silence) : Silence :=
  match kind with
  | .load => { s with load := f s.load }
  | .inspect => { s with inspect := f s.inspect }
  | .card => { s with card := f s.card }
  | .sealing => { s with sealing := f s.sealing }
  | .gate | .stack => s

/-- Judge one kind's report: apply it to the expected card and move the silence counter (R75, R76, R84). -/
def State.applyReport (s : State) (f : Frame) (l : Lane) (k : Index) (kind : Kind) : State :=
  match s.dueCard l kind k with
  | none => s
  | some card =>
    let slot := s.reportSlot f kind l
    let payload := slotPayload slot
    let accepted := reportMatches slot kind card.serial
    let verdict := if accepted then acceptedVerdict kind payload else .silent
    let r := s.recipeOf card
    let s := s.updCard l card.formed (fun c => if accepted then c.accept kind r payload else c.addReason (silentReason kind))
    s.updLane l (fun lr => { lr with silence := lr.silence.upd kind (silenceAfter verdict) })

/-! ## Gate confirmation -/

/-- The count of rejects seen that is handed to the Gate and Batch Unit (R83). -/
def State.rejectsSeen (s : State) (f : Frame) (l : Lane) : Nat :=
  let slot := s.reportSlot f .gate l
  if some (slotTag slot) = Kind.gate.reportTag then natAt (slotPayload slot) 0 else 0

/-- Confirm the `n` oldest gate entries of lane `l`: count, remove and free each (R121). -/
def State.confirm (l : Lane) : Nat → State → State
  | 0, s => s
  | n + 1, s =>
    match s.gateOf l with
    | [] => s
    | c :: _ =>
      let s := s.updLane l (LaneRec.countRejected c)
      let s := { s with gate := s.gate.eraseP (fun x => x.lane = l) }
      (s.freeRecord c).confirm l n

/-- Apply the gate's count: confirmation (R121) and unexpected rejects (R122). -/
def State.applyGateCount (s : State) (l : Lane) (k : Index) (n : Nat) : State :=
  let m := (s.gateOf l).length
  let s := s.confirm l (min n m)
  if m < n then
    let s := s.updLane l (LaneRec.bump 19 (n - m))
    if (s.lane l).blindAnswer then s
    else s.latchLane l .unexpectedReject (byteOf (min (n - m) 255) :: bytes16 k)
  else s

/-! ## STATION_LOST -/

/-- The four kinds whose counter stands at or above the limit, in bit order LOAD, INSPECT, CARD, SEAL (R85, R172). -/
def Silence.atLimit (limit : Nat) (s : Silence) : List Bool :=
  [decide (limit ≤ s.load), decide (limit ≤ s.inspect), decide (limit ≤ s.card), decide (limit ≤ s.sealing)]

/-- Evaluate STATION_LOST at the end of stage 1; where it becomes active it is latched, and auto-purge takes a lane in RUN or
DRAIN into FAULT (R53, R85). -/
def State.evalStationLost (s : State) (l : Lane) : State :=
  let atLimit := (s.lane l).silence.atLimit s.map.silenceLimit
  let now := atLimit.any (fun b => b)
  let became := now && !(s.lane l).stationLost
  let s := s.updLane l (fun r => { r with stationLost := now })
  if became then
    let s := s.latchLane l .stationLost [byteOf (bitsFromLow atLimit)]
    s.updLane l (fun r => if r.autoPurge then r.enterFault else r)
  else s

/-- Stage 1 (R55): reports are applied at step distance 1 only (R74); STATION_LOST is evaluated either way; a lane in IDLE reads
nothing and is not evaluated (R74, R83, R85). -/
def stage1 (f : Frame) (k : Index) (applies : Bool) (l : Lane) (s : State) : State :=
  if (s.lane l).state = .idle then s
  else
    let s :=
      if applies then
        let n := s.rejectsSeen f l
        let s := [Kind.load, Kind.inspect, Kind.card, Kind.sealing].foldl (fun t kind => t.applyReport f l k kind) s
        s.applyGateCount l k n
      else s
    s.evalStationLost l

end Sys2Proof.Machine
end

