-- ==== Sys2Proof/Machine/Zones.lean ====
section
/-! DEFINITION. Platen zone sensing: the converter's rotation, correction, history and zone states (R107 to R111, R114, R115),
CONVERSION_END and ZONE_FAULT_ENTRY_AFTER_STEP. -/

namespace Sys2Proof.Machine

/-- A raw code of 0 or 1023 is invalid (R108). -/
def codeValid (raw : RawCode) : Bool := raw ≠ 0 && raw ≠ 1023

/-- The corrected code of a valid raw code, kept within 0..1023 (R108). -/
def corrected (raw : RawCode) (offset : Int) : Nat := (max 0 (min 1023 ((raw.toNat : Int) + offset))).toNat

/-- A code joins a history; with 4 already held the oldest leaves (R109). -/
def joinHistory (h : List Nat) (code : Nat) : List Nat := if h.length < 4 then h ++ [code] else h.tail ++ [code]

/-- Z of a full history (R109). -/
def zoneTemperature (h : List Nat) : Nat := h.sum * 3 / 4

/-- A valid code joins, and Z is recomputed if the history now holds 4 (R109, R110). -/
def Zone.join (code : Nat) (z : Zone) : Zone :=
  let h := joinHistory z.history code
  { z with history := h, z := if h.length = 4 then zoneTemperature h else z.z, streak := 0 }

/-- The end of a conversion of a zone with a valid corrected code (R110). -/
def Zone.validCode (code : Nat) (z : Zone) : Zone :=
  match z.state with
  | .warming =>
    let z := z.join code
    { z with state := if z.history.length = 4 then .ready else .warming }
  | .ready | .holding => { z.join code with state := .ready }
  | .fault => { z with history := [code], streak := 0, state := .warming }

/-- The end of a conversion of a zone with an invalid code; `limit` is the hold limit that stood when it began (R110, R111). -/
def Zone.invalidCode (limit : Nat) (z : Zone) : Zone :=
  let streak := min (z.streak + 1) 255
  let z := { z with streak := streak }
  match z.state with
  | .warming => if limit ≤ streak then { z with state := .fault } else z
  | .ready | .holding => if limit ≤ streak then { z with state := .fault } else { z with state := .holding }
  | .fault => z

/-- The end of a conversion (R108, R110). -/
def Zone.convert (raw : RawCode) (offset : Int) (limit : Nat) (z : Zone) : Zone :=
  if codeValid raw then z.validCode (corrected raw offset) else z.invalidCode limit

/-- The zone after `l` in the rotation (R107). -/
def nextZone (l : Lane) : Lane := l + 1

/-- The conversion of zone `l` that begins now, with the offset and hold limit as they stand (R108, R112). -/
def State.beginConversion (s : State) (l : Lane) : State := { s with conv := ⟨l, (s.zone l).offset, (s.zone l).limit⟩ }

/-- The conversion in flight ends with a raw code, and the next one in the rotation begins (R107, R110). A zone that enters FAULT
while its lane is not IDLE makes ZONE_FAULT active (R115); `inStep` says whether a pitch step of the zone's lane is in progress. -/
def State.convert (s : State) (raw : RawCode) (inStep : Lane → Bool) : State :=
  let l := s.conv.zone
  let before := (s.zone l).state
  let s := s.setZone l ((s.zone l).convert raw s.conv.offset s.conv.limit)
  let s := if before ≠ .fault ∧ s.zoneFaultActive l then s.zoneFaultBegins l (inStep l) else s
  s.beginConversion (nextZone l)

/-- CONVERSION_END (R110) between pitch steps. The converter runs in every role, BYPASS included, while the part is powered and out
of reset (R107). -/
def execConversionEnd (raw : RawCode) (s : State) : Result :=
  .next (if s.power = .running then s.convert raw (fun _ => false) else s)

/-- ZONE_FAULT_ENTRY_AFTER_STEP (R46). CYCLE_FRAME takes the same entry itself at the end of each lane's step, before the status
slot is written (R56); a lane with no entry due is left as it is (assumption 6). -/
def execZoneFaultEntryAfterStep (l : Lane) (s : State) : Result :=
  .next (if s.power = .running then s.faultAfterStep l else s)

end Sys2Proof.Machine
end

