-- ==== Sys2Proof/Machine/Lanes.lean ====
section
/-! DEFINITION. Stages 3, 5, 6 and 7 of the pitch step (R47, R51, R29, R86 to R91, R102, R43), and the pitch steps of a frame in any
order of lanes and stages, with conversions ending among them (R32, R46, R54 to R56). -/

namespace Sys2Proof.Machine

/-! ## Stage 3 -/

/-- A pending changeover whose index is reached is taken in the active bank, or fails (R51). -/
def State.takeChangeover (s : State) (k : Index) (l : Lane) : State :=
  match (s.lane l).changeover with
  | none => s
  | some ch =>
    if reached ch.index k then
      if (s.entry s.active ch.entry).valid then s.updLane l (fun r => { r with assigned := ch.entry, changeover := none })
      else
        (s.updLane l (fun r => { r with changeover := none })).latchLane l .changeoverFailed
          (byteOf ch.entry :: bytes16 ch.index)
    else s

/-- Stage 3 (R47, R51). -/
def stage3 (k : Index) (l : Lane) (s : State) : State :=
  match (s.lane l).state with
  | .fault => s.mapWeb l (Card.addReason .lanePurge)
  | .run | .drain => s.takeChangeover k l
  | .idle => s

/-! ## Stage 5 -/

/-- Stage 5: a lane in RUN creates one card (R29). -/
def stage5 (k : Index) (l : Lane) (s : State) : State := if (s.lane l).state = .run then s.createCard l k else s

/-! ## Stage 6 -/

/-- LOAD or SKIP for the card at position a (R87). -/
def planLoad (r : Recipe) (c : Card) : Command × Card :=
  if c.reasons = [] then
    (.load true c.serial r.cavities (r.expected.take r.cavities), { c with commanded := { c.commanded with load := true } })
  else (.load false c.serial 0 [], c)

/-- INSPECT or SKIP for the card at position b (R88). -/
def planInspect (r : Recipe) (c : Card) : Command × Card :=
  if c.loadResult.isSome then
    (.inspect true c.serial r.cavities c.sku, { c with commanded := { c.commanded with inspect := true } })
  else (.inspect false c.serial 0 0, c)

/-- PLACE or SKIP for the card at position c (R89). -/
def planCard (c : Card) : Command × Card :=
  if c.reasons = [] then (.card true c.serial c.sku, { c with commanded := { c.commanded with card := true } })
  else (.card false c.serial 0, c)

/-- STROKE or SKIP for the card at position d, with the seal record where the calculation is made (R91, R99, R102). -/
def planSeal (r : Recipe) (m : StationMap) (pitch : Nat) (zs : ZoneState) (z : Nat) (c : Card) : Command × Card :=
  if c.reasons = [] ∧ c.placed = some true then
    let sr := sealRecord r m pitch zs z
    let c := { c with sealRec := some sr }
    let c := match sr.outcome.reason with
      | some why => c.addReason why
      | none => c
    if sr.outcome.strokes then
      (.sealing true c.serial sr.dwell (pressures m r), { c with commanded := { c.commanded with sealing := true } })
    else (.sealing false c.serial 0 [], c)
  else (.sealing false c.serial 0 [], c)

/-- The plan for one card: its command, and the card with its commanded set and seal record (R86). -/
def State.planFor (s : State) (l : Lane) (kind : Kind) (c : Card) : Command × Card :=
  match kind with
  | .load => planLoad (s.recipeOf c) c
  | .inspect => planInspect (s.recipeOf c) c
  | .card => planCard c
  | .sealing | .gate | .stack => planSeal (s.recipeOf c) s.map s.pitch (s.zone l).state (s.zone l).z c

/-- Set the planned command of a kind. -/
def LanePlan.put (kind : Kind) (cmd : Command) (p : LanePlan) : LanePlan :=
  match kind with
  | .load => { p with load := some cmd }
  | .inspect => { p with inspect := some cmd }
  | .card => { p with card := some cmd }
  | .sealing => { p with sealing := some cmd }
  | .gate => { p with gate := some cmd }
  | .stack => { p with stack := some cmd }

/-- Plan the command of one station kind for the card at its position; a blank position gets none (R86). -/
def State.planStation (s : State) (k : Index) (l : Lane) (kind : Kind) : State :=
  match s.cardAt l k (s.map.offset kind) with
  | none => s
  | some c =>
    let cmd := (s.planFor l kind c).1
    (s.updCard l c.formed (fun x => (s.planFor l kind x).2)).updLane l (fun r => { r with plan := r.plan.put kind cmd })

/-- Stage 6: plan the commands for the cards at positions a, b, c and d (R86 to R91). -/
def stage6 (k : Index) (l : Lane) (s : State) : State :=
  [Kind.load, Kind.inspect, Kind.card, Kind.sealing].foldl (fun t kind => t.planStation k l kind) s

/-! ## Stage 7 -/

/-- Stage 7: a draining lane that is empty enters IDLE, with the run-end close in the STACK_CMD of the same frame (R43, R127, R128). -/
def stage7 (l : Lane) (s : State) : State :=
  let r := s.lane l
  if r.state = .drain ∧ r.web = [] ∧ s.gateOf l = [] then
    let events := plannedEvents r.plan.stack
    let fullPlanned := events.any (fun e => e.kind = .closeFull)
    let closed := r.enterIdle.runEndClose (s.assignedMode l) fullPlanned
    s.setLane l { closed.1 with plan := { closed.1.plan with stack := some (.stack (events ++ closed.2.toList)) } }
  else s

/-! ## The pitch steps of a frame -/

/-- What the pitch steps of one frame share: the frame, its index, whether reports are applied, and the first stage taken (R54). -/
structure StepCtx where
  frame : Frame
  index : Index
  applies : Bool
  firstStage : Nat
deriving DecidableEq, Repr

/-- The pitch steps a frame class runs (R54, R132). -/
def stepCtx (f : Frame) (cls : FrameClass) : StepCtx where
  frame := f
  index := frameIndex f
  applies := cls = .next
  firstStage :=
    match cls with
    | .first | .next => 1
    | .gap => 3
    | .lost => 4
    | .again => 8

/-- Stage `n` of lane `l`'s pitch step (R55). -/
def runStage (x : StepCtx) (n : Nat) (l : Lane) (s : State) : State :=
  match n with
  | 1 => stage1 x.frame x.index x.applies l s
  | 2 => stage2 x.index l s
  | 3 => stage3 x.index l s
  | 4 => stage4 x.index l s
  | 5 => stage5 x.index l s
  | 6 => stage6 x.index l s
  | 7 => (stage7 l s).faultAfterStep l
  | _ => s

/-- The pitch steps in progress: the state, and the next stage of each lane, 8 when its step has ended. -/
structure Steps where
  state : State
  next : Vector Nat 6
deriving DecidableEq, Repr

/-- No stage taken yet. -/
def Steps.start (x : StepCtx) (s : State) : Steps := ⟨s, Vector.replicate 6 x.firstStage⟩

/-- Lane `l` takes the next stage of its step (R55); after stage 7 its step has ended. -/
def Steps.advance (x : StepCtx) (l : Lane) (p : Steps) : Steps :=
  if p.next[l] ≤ 7 then ⟨runStage x p.next[l] l p.state, p.next.set l (p.next[l] + 1)⟩ else p

/-- Lane `l`'s pitch step is in progress: begun and not ended (R46). -/
def Steps.inProgress (x : StepCtx) (p : Steps) (l : Lane) : Bool := x.firstStage < p.next[l] && p.next[l] ≤ 7

/-- One tick: a stage of a lane, or the end of a conversion (R32, R46). DESIGN CHOICE (assumption 25, unsafe): within a
frame's work a conversion ends before, between or after the stages, never inside one. -/
def Steps.tick (x : StepCtx) (p : Steps) (t : Tick) : Steps :=
  match t with
  | .stage l => p.advance x l
  | .conversion raw => { p with state := p.state.convert raw (p.inProgress x) }

/-- Lane `l`'s step is run to its end. -/
def Steps.finish (x : StepCtx) (l : Lane) (p : Steps) : Steps := (Steps.advance x l)^[7] p

/-- The pitch steps of a frame: the ticks in their order, then whatever stages are left, in lane order (R54 to R56). -/
def runPitchSteps (x : StepCtx) (ticks : List Tick) (s : State) : State :=
  ((List.finRange 6).foldl (fun p l => p.finish x l) (ticks.foldl (Steps.tick x) (Steps.start x s))).state

end Sys2Proof.Machine
end

