-- ==== Sys2Proof/Machine/Continuity.lean ====
section
/-! DEFINITION. Index continuity: the repeat, the gap and lost track (R133 to R140), and the bank switch decision (R68, R69). -/

namespace Sys2Proof.Machine

/-! ## Gap of 2 to 8 -/

/-- Count a gate entry voided at a gap or freed at lost track (R135, R139). -/
def LaneRec.countUnverified (c : Card) (r : LaneRec) : LaneRec := (r.countRejected c).bump 18 1

/-- Void every gate entry of lane `l` (R135). -/
def State.voidGate (s : State) (l : Lane) : State := s.removeGate (fun c => c.lane = l) LaneRec.countUnverified

/-- The card reached the punch during the missed indexes before `k` (R136). -/
def retiredAt (e : Nat) (k : Index) (c : Card) : Bool := e ≤ (k - 1 - c.formed).toNat

/-- A retired card: INDEX_GAP when its reason set is empty (R136). -/
def Card.retire (c : Card) : Card := c.addReasonIf (c.reasons = []) .indexGap

/-- Retire the cards at the head of lane `l`'s web list that reached the punch during the missed indexes (R136). -/
def State.retireWeb (s : State) (k : Index) (l : Lane) : State :=
  let web := (s.lane l).web
  let p := retiredAt s.map.e k
  (web.takeWhile p).foldl (fun t c => (t.updLane l (LaneRec.countRejected c.retire)).freeRecord c)
    (s.updLane l (fun r => { r with web := web.dropWhile p }))

/-- The card stood at station a, b, c or d at an index from `last` to `k - 1` (R137). -/
def stoodAtStation (m : StationMap) (last k : Index) (c : Card) : Bool :=
  [m.a, m.b, m.c, m.d].any (fun o => decide ((last - c.formed).toNat ≤ o) && decide (o ≤ (k - 1 - c.formed).toNat))

/-- Mark the remaining cards of lane `l` that stood at a station from `last` to `k - 1` (R137). -/
def State.markGap (s : State) (last k : Index) (l : Lane) : State :=
  s.mapWeb l (fun c => c.addReasonIf (stoodAtStation s.map last k c) .indexGap)

/-- Part `n` of lane `l`'s gap handling: voiding, retirement, marking (R135, R136, R137). -/
def gapPart (last k : Index) (n : Nat) (l : Lane) (s : State) : State :=
  match n with
  | 0 => s.voidGate l
  | 1 => s.retireWeb k l
  | 2 => s.markGap last k l
  | _ => s

/-- Lane `l` takes the next part of its gap handling; `p` holds the parts each lane has taken. -/
def gapAdvance (last k : Index) (p : Steps) (l : Lane) : Steps :=
  if p.next[l] ≤ 2 then ⟨gapPart last k p.next[l] l p.state, p.next.set l (p.next[l] + 1)⟩ else p

/-- The gap handling of every lane: in the order given, then whatever is left, part by part and lane by lane (R132, R135 to R137). The
order between lanes decides only how freed records stand on the free list. -/
def gapHandling (last k : Index) (order : List Lane) (s : State) : State :=
  let s := s.latchChip .indexGap (bytes16 last ++ bytes16 k)
  let rest := (List.replicate 3 (List.finRange 6)).flatten
  ((order ++ rest).foldl (gapAdvance last k) ⟨s, Vector.replicate 6 0⟩).state

/-! ## Lost track -/

/-- Free every card of lane `l`'s web list, counting each lost (R139). -/
def State.loseWeb (s : State) (l : Lane) : State :=
  (s.lane l).web.foldl (fun t c => (t.updLane l (LaneRec.bump 16 1)).freeRecord c)
    (s.updLane l (fun r => { r with web := [] }))

/-- A lane that is not IDLE enters or stays in FAULT with a blind window of e, and TRACK_LOST is latched for it (R140). -/
def State.loseLane (s : State) (last k : Index) (l : Lane) : State :=
  if (s.lane l).state = .idle then s
  else
    (s.updLane l (fun r => { r.enterFault with blind := s.map.e })).latchLane l .trackLost (bytes16 last ++ bytes16 k)

/-- Lost track: every record is freed, the gate list first, then the web lists of lanes 0 to 5 (R28, R139), and the lanes enter
FAULT (R140). -/
def lostTrack (last k : Index) (s : State) : State :=
  let s := s.removeGate (fun _ => true) LaneRec.countUnverified
  let s := s.eachLane (fun l t => t.loseWeb l)
  s.eachLane (fun l t => t.loseLane last k l)

/-- The continuity handling of a frame of index `k` before its bank switch and pitch steps (R132 to R140). -/
def continuity (cls : FrameClass) (k : Index) (gapOrder : List Lane) (s : State) : State :=
  match cls, s.lastIndex with
  | .again, _ => s.latchChip .indexRepeat (bytes16 k)
  | .gap, some last => gapHandling last k gapOrder s
  | .lost, some last => lostTrack last k s
  | _, _ => s

/-! ## Bank switch -/

/-- The lanes in RUN or DRAIN whose assigned entry is EMPTY in the other bank, lowest first (R68, R72). -/
def State.switchBlockers (s : State) : List Lane :=
  (List.finRange 6).filter (fun l =>
    ((s.lane l).state = .run || (s.lane l).state = .drain) && !(s.entry s.active.other (s.lane l).assigned).valid)

/-- Decide a pending bank switch that is reached at index `k` (R68, R72). -/
def State.decideSwitch (s : State) (k : Index) : State :=
  match s.pendingSwitch with
  | none => s
  | some x =>
    if reached x k then
      match s.switchBlockers with
      | [] => { s with active := s.active.other, pendingSwitch := none }
      | l :: _ => { s with pendingSwitch := none }.latchChip .bankSwitchFailed (bytes16 x ++ [byteOf l])
    else s

end Sys2Proof.Machine
end

