-- ==== Sys2Proof/Machine/Ring.lean ====
section
/-! DEFINITION. The Index Ring Port: the Frame Buffer (R144), the frame check (R145), command writing (R150), monitor comparison
(R151), the status slot (R152), and the whole of a cycle frame (R132). -/

namespace Sys2Proof.Machine

/-! ## Ring Port counters (R146) -/

/-- A 16-bit counter that holds at 65535. -/
def hold16 (n : Nat) : Nat := min (n + 1) 65535

def RingCounters.addDiscarded (r : RingCounters) : RingCounters := { r with discarded := hold16 r.discarded }
def RingCounters.addCrcError (r : RingCounters) : RingCounters := { r with crcErrors := hold16 r.crcErrors }
def RingCounters.addAbsent (r : RingCounters) : RingCounters := { r with slotsAbsent := hold16 r.slotsAbsent }
def RingCounters.addUnverified (r : RingCounters) : RingCounters := { r with unverified := hold16 r.unverified }
def RingCounters.addMismatch (r : RingCounters) : RingCounters := { r with mismatches := hold16 r.mismatches }

/-! ## The Frame Buffer -/

/-- The length of a frame the buffer takes (R144). -/
def frameLengthOk (f : Frame) : Bool := 3 ≤ f.length && f.length ≤ 778

/-- A frame's last byte has arrived at RING IN (R144). -/
def State.arrive (s : State) (f : Frame) : State :=
  if !frameLengthOk f then
    { s with ring := s.ring.addDiscarded }.latchChip .frameCrc [byteAt f 0, 2]
  else if s.buffer.length < 4 then { s with buffer := s.buffer ++ [f] }
  else { s with ring := s.ring.addDiscarded }.latchChip .ringOverrun [byteAt f 0]

/-- FRAME_ARRIVAL (R144). In BYPASS, in reset and unpowered the relay joins the ring outside the part, which sees no frame (R142). -/
def execFrameArrival (f : Frame) (s : State) : Result := .next (if s.onRing then s.arrive f else s)

/-- The kept views once the frame at the head has left: that frame's goes with it, and the others come one place nearer the head. -/
def viewsAfterDeparture (vs : List CardView) : List CardView :=
  (vs.filter (fun v => 0 < v.place)).map (fun v => { v with place := v.place - 1 })

/-- FRAME_DEPARTURE (R144): the frame in process, its processing complete, has left at RING OUT. With no frame being sent nothing
leaves (assumption 5). -/
def execFrameDeparture (s : State) : Result :=
  .next (if s.onRing ∧ s.phase = .sending then
      match s.buffer with
      | [] => s
      | f :: rest => { s with buffer := rest, phase := .waiting, cardViews := viewsAfterDeparture s.cardViews, ringOut := some f }
    else s)

/-- What the frame check decides (R145). -/
inductive FrameFate where
  /-- forwarded as received, counted and latched with this cause -/
  | bad (cause : Byte)
  /-- forwarded as received, or unchanged -/
  | pass
  /-- handed on to tracking -/
  | cycle
  /-- handed on to the Service Unit -/
  | service
deriving DecidableEq, Repr

/-- The frame check and the handling by kind and length, for a node with this address (R145, R160). -/
def frameFate (addr : BitVec 6) (f : Frame) : FrameFate :=
  if !crcGood f then .bad 1
  else if byteAt f 0 = 0xC1 then
    if 1 ≤ slotCount f ∧ slotCount f ≤ 48 ∧ f.length = 10 + 16 * slotCount f then .cycle else .bad 2
  else if byteAt f 0 = 0x5A then
    if f.length = 58 then
      if byteAt f 1 = addr.zeroExtend 8 ∨ byteAt f 1 = 63 then .service else .pass
    else .bad 2
  else .pass

/-! ## Command slots -/

/-- The state and the frame being worked on. -/
structure Work where
  state : State
  frame : Frame
deriving DecidableEq, Repr

/-- The planned command for a COMMAND use; in a repeat STACK_CMD is excepted (R134). -/
def State.planned (s : State) (isRepeat : Bool) (kind : Kind) (l : Lane) : Option Command :=
  if isRepeat ∧ kind = .stack then none else (s.lane l).plan.get kind

/-- One COMMAND slot in ACTIVE (R149, R150). -/
def writeCommand (isRepeat : Bool) (i : Nat) (kind : Kind) (l : Lane) (w : Work) : Work :=
  match w.state.planned isRepeat kind l with
  | none => w
  | some cmd =>
    if i < slotCount w.frame then
      let slot := slotBytes w.frame i
      if slotTag slot = tagNone then
        { w with frame := putSlot w.frame i (makeSlot kind.commandTag w.state.nodeAddr cmd.payload) }
      else { w with state := w.state.latchChip .planConflict [byteOf i, byteAt slot 1] }
    else { w with state := { w.state with ring := w.state.ring.addAbsent } }

/-- The result of comparing a present slot with the plan in MONITOR (R151). -/
inductive Comparison where
  | agrees
  | unverified
  | mismatch
deriving DecidableEq, Repr

/-- Compare a present COMMAND slot with the plan (R151). -/
def compareSlot (kind : Kind) (plan : Option Command) (slot : List Byte) : Comparison :=
  match plan with
  | some cmd =>
    if slotTag slot = tagNone then .unverified
    else if slotTag slot = kind.commandTag ∧ comparedEqual kind cmd.payload (slotPayload slot) then .agrees
    else .mismatch
  | none => if slotTag slot = tagNone then .agrees else .mismatch

/-- One COMMAND slot in MONITOR (R149, R151). -/
def compareCommand (isRepeat : Bool) (i : Nat) (kind : Kind) (l : Lane) (w : Work) : Work :=
  let plan := w.state.planned isRepeat kind l
  if i < slotCount w.frame then
    match compareSlot kind plan (slotBytes w.frame i) with
    | .agrees => w
    | .unverified => { w with state := { w.state with ring := w.state.ring.addUnverified } }
    | .mismatch =>
      { w with state := { w.state with ring := w.state.ring.addMismatch }.latchLane l .planMismatch [byteOf i] }
  else if plan.isSome then { w with state := { w.state with ring := w.state.ring.addAbsent } }
  else w

/-- One entry of the Slot Map at the end of a cycle frame (R150, R151). -/
def commandSlot (isRepeat : Bool) (w : Work) (entry : SlotUse × Nat) : Work :=
  match entry.1 with
  | .command kind l =>
    match w.state.role with
    | .active => writeCommand isRepeat entry.2 kind l w
    | .monitor => compareCommand isRepeat entry.2 kind l w
    | .bypass => w
  | .unused | .report _ _ | .status => w

/-! ## The status slot -/

/-- The lane states, two bits per lane (R156). -/
def State.laneStateWord (s : State) : Nat := ((List.finRange 6).map (fun l => (s.lane l).state.code * 4 ^ l.val)).sum

/-- The flags byte of CHIP_STATUS (R156). -/
def State.statusFlags (s : State) : Nat :=
  bitsFromLow [s.pendingSwitch.isSome, (List.finRange 6).any (fun l => (s.lane l).changeover.isSome), s.timer.stall]

/-- The CHIP_STATUS payload (R156). -/
def State.statusPayload (s : State) : List Byte :=
  [s.role.code, s.active.code, byteOf s.stopReason] ++ nat16 s.laneStateWord
    ++ [byteOf (bitsFromLow ((List.finRange 6).map s.laneSummary)), boolByte s.chipSummary, byteOf s.statusFlags]
    ++ nat16 (s.timer.average.getD 0) ++ bytes16 (s.lastIndex.getD 0)

/-- Write the status slot where it is mapped and present; one that is mapped and not present counts as absent (R149, R152). -/
def writeStatus (w : Work) : Work :=
  match w.state.slotOf .status with
  | none => w
  | some i =>
    if i < slotCount w.frame then
      { w with frame := putSlot w.frame i (makeSlot tagStatus w.state.nodeAddr w.state.statusPayload) }
    else { w with state := { w.state with ring := w.state.ring.addAbsent } }

/-- The end of a cycle frame's work: command slots in slot order, then the status slot, then the CRC (R150 to R152). -/
def finishCycle (isRepeat : Bool) (f : Frame) (s : State) : Work :=
  let w := s.slotMap.toList.zipIdx.foldl (commandSlot isRepeat) ⟨s, f⟩
  let w := writeStatus w
  { w with frame := withCrc w.frame }

/-! ## A cycle frame -/

/-- Take the pending role (R143). -/
def State.takeRole (s : State) : State :=
  match s.pendingRole with
  | some r => { s with role := r, pendingRole := none }
  | none => s

/-- Every command slot of the coming frame starts unplanned. -/
def State.clearPlans (s : State) : State := s.eachLane (fun l t => t.updLane l (fun r => { r with plan := LanePlan.none }))

/-- Before the pitch steps (R132): timer, role, continuity handling, and for an accepted frame the last index and the bank switch.
DESIGN CHOICE (assumption 24, unsafe): a repeat clears the stall flag (R13, R15) before its own status slot is written, although R134 and
R152 have that slot show the state the last accepted frame left. -/
def beginCycle (f : Frame) (cls : FrameClass) (gapOrder : List Lane) (s : State) : State :=
  let k := frameIndex f
  let s := { s with timer := s.timer.frame cls }.takeRole
  let s := continuity cls k gapOrder s
  if cls = .again then s else ({ s with lastIndex := some k }.decideSwitch k).clearPlans

/-- The whole of a good cycle frame (R132 to R140, R150 to R152). -/
def processCycle (f : Frame) (gapOrder : List Lane) (ticks : List Tick) (s : State) : Work :=
  let cls := classify s.lastIndex (frameIndex f)
  let s := beginCycle f cls gapOrder s
  let s := runPitchSteps (stepCtx f cls) ticks s
  finishCycle (cls = .again) f s

/-- The processing of the frame at the head of the buffer is complete, and this frame is sent in its place (R145). -/
def State.sendHead (s : State) (f : Frame) : State :=
  match s.buffer with
  | [] => s
  | _ :: rest => { s with buffer := f :: rest, phase := .sending }

/-- CYCLE_FRAME (R132): the good cycle frame that FRAME_PROCESSING has handed on. With none handed on nothing happens
(assumption 5). -/
def execCycleFrame (gapOrder : List Lane) (ticks : List Tick) (s : State) : Result :=
  .next (if s.onRing ∧ s.phase = .cycle then
      match s.buffer with
      | [] => s
      | f :: _ =>
        let w := processCycle f gapOrder ticks s
        w.state.sendHead w.frame
    else s)

end Sys2Proof.Machine
end

