-- ==== Sys2Proof/Machine/Service.lean ====
section
/-! DEFINITION. The Service Unit: which request a service frame carries, how a request is answered under the node address and at
broadcast (R157, R160 to R163), and UNKNOWN_REQUEST. -/

namespace Sys2Proof.Machine

/-- Status codes (R157). -/
def Status.code : Status → Byte
  | .done => 0x01
  | .scheduled => 0x02
  | .refusedFormat => 0x81
  | .refusedRange => 0x82
  | .refusedState => 0x83
  | .refusedInUse => 0x84
  | .refusedBusy => 0x85
  | .refusedDuplicate => 0x86

/-- The request was taken (R162). -/
def Status.taken : Status → Bool
  | .done | .scheduled => true
  | .refusedFormat | .refusedRange | .refusedState | .refusedInUse | .refusedBusy | .refusedDuplicate => false

/-- What the Service Unit decides: the status, the reply data, and the state after the request. -/
structure Answer where
  status : Status
  data : List Byte
  state : State
deriving DecidableEq, Repr

/-- Refuse, changing nothing (R163), with the reply data the rule gives for the refusal (R161). -/
def refuse (status : Status) (data : List Byte) (s : State) : Answer := ⟨status, data, s⟩

/-- REFUSED_FORMAT carries no reply data (R161). -/
def refuseFormat (s : State) : Answer := refuse .refusedFormat [] s

/-- The requests, one for each service row of the table. -/
inductive Request where
  | identify
  | readState
  | mapSlot
  | readSlotMap
  | setStations
  | readStations
  | loadRecipe
  | readRecipe
  | switchBank
  | switchBankCancel
  | laneRun
  | laneDrain
  | lanePurge
  | laneClear
  | laneChangeover
  | forceOn
  | forceOff
  | autoPurgeOn
  | autoPurgeOff
  | readCard
  | readCounters
  | clearCounters
  | readAlarms
  | setAlarmMasks
  | setZone
  | readZones
  | setRole
  | restart
  | unknown
deriving DecidableEq, Repr

/-- The lane command a code names; an unknown one is answered as an unknown request (R40, R167, assumption 7). -/
def laneRequest (code : Byte) : Request :=
  match code.toNat with
  | 1 => .laneRun
  | 2 => .laneDrain
  | 3 => .lanePurge
  | 4 => .laneClear
  | 5 => .laneChangeover
  | 6 => .forceOn
  | 7 => .forceOff
  | 8 => .autoPurgeOn
  | 9 => .autoPurgeOff
  | _ => .unknown

/-- The kind of a SWITCH_BANK; an unknown one is answered as an unknown request (R167, assumption 7). -/
def switchRequest (kind : Byte) : Request :=
  match kind.toNat with
  | 1 => .switchBank
  | 2 => .switchBankCancel
  | _ => .unknown

/-- The request a service frame carries (R157, R167). -/
def requestOf (f : Frame) : Request :=
  match natAt f 3 with
  | 0x01 => .identify
  | 0x02 => .readState
  | 0x10 => .mapSlot
  | 0x11 => .readSlotMap
  | 0x12 => .setStations
  | 0x13 => .readStations
  | 0x14 => .loadRecipe
  | 0x15 => .readRecipe
  | 0x16 => switchRequest (byteAt f 8)
  | 0x20 => laneRequest (byteAt f 9)
  | 0x21 => .readCard
  | 0x22 => .readCounters
  | 0x23 => .clearCounters
  | 0x30 => .readAlarms
  | 0x31 => .setAlarmMasks
  | 0x40 => .setZone
  | 0x41 => .readZones
  | 0x50 => .setRole
  | 0x5F => .restart
  | _ => .unknown

/-- The read requests, which are not taken at broadcast (R162). -/
def Request.isRead : Request → Bool
  | .identify | .readState | .readSlotMap | .readStations | .readRecipe | .readCard | .readCounters | .readAlarms
  | .readZones => true
  | .mapSlot | .setStations | .loadRecipe | .switchBank | .switchBankCancel | .laneRun | .laneDrain | .lanePurge
  | .laneClear | .laneChangeover | .forceOn | .forceOff | .autoPurgeOn | .autoPurgeOff | .clearCounters | .setAlarmMasks
  | .setZone | .setRole | .restart | .unknown => false

/-- The 48 data bytes of a service frame (R157). -/
def serviceData (f : Frame) : List Byte := (f.drop 8).take 48

/-- No data byte from byte `n` on is other than 0 (R157). -/
def restZero (d : List Byte) (n : Nat) : Bool := (d.drop n).all (fun b => b = 0)

/-- A frame answered under the node address: status and data overwritten, the counts left, the CRC regenerated (R161). -/
def replyFrame (f : Frame) (status : Status) (data : List Byte) : Frame :=
  withCrc (patch (patch f 5 [status.code]) 8 (padTo 48 data))

/-- A broadcast frame with a count (byte 6 accepted, byte 7 refused) increased by 1 and held at 255; status and data are left, the
CRC regenerated (R162). -/
def countFrame (f : Frame) (i : Nat) : Frame := withCrc (patch f i [byteOf (min (natAt f i + 1) 255)])

/-- The service frame handed on to the Service Unit, if there is one. -/
def State.handed (s : State) : Option Frame := if s.onRing ∧ s.phase = .service then s.buffer.head? else none

/-- Answer a service frame with what the Service Unit decides (R160 to R162). -/
def answerFrame (f : Frame) (request : Request) (decide : List Byte → State → Answer) (s : State) : State :=
  if byteAt f 1 = 63 then
    if request.isRead then s.sendHead (countFrame f 7)
    else
      let a := decide (serviceData f) s
      a.state.sendHead (countFrame f (if a.status.taken then 6 else 7))
  else
    let a := decide (serviceData f) s
    a.state.sendHead (replyFrame f a.status a.data)

/-- Execute a request that the frame in process carries. With no service frame handed on, or one that carries another request,
nothing happens (assumption 5). -/
def serve (request : Request) (decide : List Byte → State → Answer) (s : State) : Result :=
  .next (match s.handed with
    | none => s
    | some f => if requestOf f = request then answerFrame f request decide s else s)

/-- An unknown request is malformed (R157). -/
def decideUnknown (_d : List Byte) (s : State) : Answer := refuseFormat s

/-- UNKNOWN_REQUEST (R157, R162): REFUSED_FORMAT under the node address, counted refused at broadcast. -/
def execUnknownRequest (s : State) : Result := serve .unknown decideUnknown s

end Sys2Proof.Machine
end

