-- ==== Sys2Proof/Machine/AlarmRequests.lean ====
section
/-! DEFINITION. READ_ALARMS (R174) and SET_ALARM_MASKS (R175). -/

namespace Sys2Proof.Machine

/-- The scope of an alarm request (R174, R175). -/
inductive Scope where
  | lane (l : Lane)
  | chip
  | all
deriving DecidableEq, Repr

/-- The scope a byte names: a lane, 0xFE for the chip, 0xFF for all (R174, R175). -/
def scopeOf (n : Nat) : Option Scope :=
  if n = 0xFE then some .chip else if n = 0xFF then some .all else (laneOf n).map Scope.lane

/-! ## READ_ALARMS -/

/-- The six-byte block of one alarm (R174). -/
def Alarm.block (active fixed : Bool) (a : Alarm) : List Byte :=
  byteOf (bitsFromLow [active, a.latched, a.summaryEn, a.stopEn, fixed]) :: padTo 5 (a.latch.getD [])

/-- The READ_ALARMS reply (R174). -/
def State.alarmReply (s : State) : Scope → List Byte
  | .lane l =>
    byteOf l :: (s.lane l).alarms.toList.zipIdx.flatMap (fun p => p.1.block (s.laneActive l p.2) (laneFixed p.2))
  | .chip => 0xFE :: s.chipAlarms.toList.zipIdx.flatMap (fun p => p.1.block false (chipFixed p.2))
  | .all =>
    (List.finRange 6).map (fun l => byteOf (bitsFromLow ((s.lane l).alarms.toList.map Alarm.latched)))
      ++ (List.finRange 6).map (fun l => byteOf (bitsFromLow ((List.range 7).map (s.laneActive l))))
      ++ [byteOf (bitsFromLow (s.chipAlarms.toList.map Alarm.latched)), byteOf s.stopReason]

/-- A latch cleared with its data, unless the alarm is active (R174). -/
def Alarm.clear (active : Bool) (a : Alarm) : Alarm := if active then a else { a with latch := none }

/-- Clear the latches of a lane whose alarms are not active (R174). -/
def State.clearLaneLatches (s : State) (l : Lane) : State :=
  s.updLane l (fun r => { r with alarms := r.alarms.mapIdx (fun i a => a.clear (s.laneActive l i)) })

/-- Clear the chip's latches; chip alarms are events and never active (R174). -/
def State.clearChipLatches (s : State) : State := { s with chipAlarms := s.chipAlarms.map (Alarm.clear false) }

/-- Clear the latches in a scope (R174). -/
def State.clearLatches (s : State) : Scope → State
  | .lane l => s.clearLaneLatches l
  | .chip => s.clearChipLatches
  | .all => (s.eachLane (fun l t => t.clearLaneLatches l)).clearChipLatches

/-- READ_ALARMS: the reply first, then the clearing, then the stop request afresh (R174, R177). -/
def decideReadAlarms (d : List Byte) (s : State) : Answer :=
  if !restZero d 1 then refuseFormat s
  else
    match scopeOf (natAt d 0) with
    | none => refuse .refusedRange [] s
    | some scope => ⟨.done, s.alarmReply scope, (s.clearLatches scope).settleStop⟩

/-- READ_ALARMS (R174). -/
def execReadAlarms (s : State) : Result := serve .readAlarms decideReadAlarms s

/-! ## SET_ALARM_MASKS -/

/-- An alarm with the enables a mask pair gives its place; a fixed stop-enable stays on (R175). -/
def Alarm.mask (summary stop : Byte) (fixed : Nat → Bool) (i : Nat) (a : Alarm) : Alarm :=
  { a with summaryEn := bitOf summary i, stopEn := bitOf stop i || fixed i }

/-- Replace the enables of a lane (R175). -/
def State.maskLane (s : State) (summary stop : Byte) (l : Lane) : State :=
  s.updLane l (fun r => { r with alarms := r.alarms.mapIdx (Alarm.mask summary stop laneFixed) })

/-- Replace the enables of the chip (R175). -/
def State.maskChip (s : State) (summary stop : Byte) : State :=
  { s with chipAlarms := s.chipAlarms.mapIdx (Alarm.mask summary stop chipFixed) }

/-- Replace the enables of a scope; 0xFF is all six lanes (R175). -/
def State.maskScope (s : State) (summary stop : Byte) : Scope → State
  | .lane l => s.maskLane summary stop l
  | .chip => s.maskChip summary stop
  | .all => s.eachLane (fun l t => t.maskLane summary stop l)

/-- How many alarms a scope's masks have: 6 for the chip, else 7 (R175). -/
def Scope.width : Scope → Nat
  | .chip => 6
  | .lane _ | .all => 7

/-- The fixed stop-enables of a scope as a mask (R172, R175). -/
def Scope.fixedMask : Scope → Byte
  | .chip => 0x20
  | .lane _ | .all => 0x24

/-- The SET_ALARM_MASKS reply: scope, masks as they stand, and the fixed stop-enables asked to be turned off (R175). -/
def maskReply (scope : Scope) (code summary stop : Byte) : List Byte :=
  [code, summary, stop ||| scope.fixedMask, scope.fixedMask &&& ~~~stop]

/-- A mask has a bit in a place that stands for no alarm; for a scope out of range bit 7 is such a place (R175, assumption 8). -/
def maskMalformed (scope : Option Scope) (m : Byte) : Bool := 2 ^ ((scope.map Scope.width).getD 7) ≤ m.toNat

/-- SET_ALARM_MASKS (R175, R177). -/
def decideSetAlarmMasks (d : List Byte) (s : State) : Answer :=
  let scope := scopeOf (natAt d 0)
  let summary := byteAt d 1
  let stop := byteAt d 2
  if !restZero d 3 || maskMalformed scope summary || maskMalformed scope stop then refuseFormat s
  else
    match scope with
    | none => refuse .refusedRange [] s
    | some sc => ⟨.done, maskReply sc (byteAt d 0) summary stop, (s.maskScope summary stop sc).settleStop⟩

/-- SET_ALARM_MASKS (R175). -/
def execSetAlarmMasks (s : State) : Result := serve .setAlarmMasks decideSetAlarmMasks s

end Sys2Proof.Machine
end

