-- ==== Sys2Proof/Machine/LaneCommands.lean ====
section
/-! DEFINITION. The nine commands of LANE_COMMAND (R40 to R53) and the lane summary they return (R165). -/

namespace Sys2Proof.Machine

/-- The lane summary of R165; `replaced` is set by a CHANGEOVER that displaced a pending one (R40). -/
def State.laneSummaryBytes (s : State) (replaced : Bool) (l : Lane) : List Byte :=
  let r := s.lane l
  [byteOf r.state.code, byteOf r.assigned, (r.changeover.map (fun c => byteOf c.entry)).getD 0xFF]
    ++ bytes16 ((r.changeover.map Changeover.index).getD 0)
    ++ [byteOf (bitsFromLow [r.force, r.autoPurge, replaced] + 16 * (s.gateOf l).length), byteOf r.blind,
        byteOf r.web.length]

/-- The LANE_COMMAND reply: the lane, then its summary (R165). -/
def State.laneReply (s : State) (replaced : Bool) (l : Lane) : List Byte := byteOf l :: s.laneSummaryBytes replaced l

/-- Take a lane command: answer with the summary after it (R40). -/
def takeLane (status : Status) (replaced : Bool) (l : Lane) (s : State) : Answer := ⟨status, s.laneReply replaced l, s⟩

/-- Refuse a lane command with the summary as it stands (R40, R48). -/
def refuseLane (status : Status) (l : Lane) (s : State) : Answer := refuse status (s.laneReply false l) s

/-- The entry byte of a LANE_COMMAND, `none` for 0xFF (R167). -/
def entryByte (d : List Byte) : Option Nat := if natAt d 2 = 255 then none else some (natAt d 2)

/-- A LANE_COMMAND whose unused fields are not 0 is malformed: every command but RUN and CHANGEOVER has entry 0, every command but
CHANGEOVER has index 0 (R167). -/
def laneCommand (usesEntry usesIndex : Bool) (d : List Byte) (s : State) (decide : Lane → Answer) : Answer :=
  if !restZero d 5 || (!usesIndex && word16 d 3 ≠ 0) || (!usesEntry && byteAt d 2 ≠ 0) then refuseFormat s
  else
    match laneOf (natAt d 0) with
    | none => refuse .refusedRange [] s
    | some l => decide l

/-- The entry is VALID in the active bank; above 15 it does not exist (R41). -/
def State.activeEntry (s : State) (n : Nat) : Option EntryNo :=
  (entryOf n).filter (fun e => (s.entry s.active e).valid)

/-- The lane has all of its eleven slot uses mapped (R41). -/
def State.laneMapped (s : State) (l : Lane) : Bool :=
  [Kind.load, Kind.inspect, Kind.card, Kind.sealing, Kind.gate, Kind.stack].all (fun k => (s.slotOf (.command k l)).isSome)
    && [Kind.load, Kind.inspect, Kind.card, Kind.sealing, Kind.gate].all (fun k => (s.slotOf (.report k l)).isSome)

/-- The lane leaves IDLE for RUN; with its zone in FAULT, ZONE_FAULT becomes active and the lane enters FAULT at once (R41). -/
def State.startLane (s : State) (l : Lane) (e : EntryNo) : State :=
  let s := s.updLane l (fun r => { r with state := .run, assigned := e })
  if (s.zone l).state = .fault then s.zoneFaultBegins l false else s

/-- LANE RUN on a lane (R41); from IDLE with the entry given as none it is malformed (R40). -/
def runLane (d : List Byte) (s : State) (l : Lane) : Answer :=
  match (s.lane l).state with
  | .idle =>
    match entryByte d with
    | none => refuseFormat s
    | some n =>
      if s.stations.isNone || !s.laneMapped l then refuseLane .refusedState l s
      else
        match s.activeEntry n with
        | none => refuseLane .refusedRange l s
        | some e => takeLane .done false l (s.startLane l e)
  | .drain =>
    match entryByte d with
    | none => takeLane .done false l (s.updLane l (fun r => { r with state := .run }))
    | some n =>
      match s.activeEntry n with
      | none => refuseLane .refusedRange l s
      | some e => takeLane .done false l (s.updLane l (fun r => { r with state := .run, assigned := e }))
  | .run | .fault => refuseLane .refusedState l s

/-- LANE_COMMAND RUN (R41). -/
def decideLaneRun (d : List Byte) (s : State) : Answer := laneCommand true false d s (runLane d s)

/-- LANE_COMMAND RUN (R41). -/
def execLaneRun (s : State) : Result := serve .laneRun decideLaneRun s

/-- LANE DRAIN on a lane (R42). -/
def drainLane (s : State) (l : Lane) : Answer :=
  match (s.lane l).state with
  | .run => takeLane .done false l (s.updLane l (fun r => { r with state := .drain }))
  | .drain | .idle => takeLane .done false l s
  | .fault => refuseLane .refusedState l s

/-- LANE_COMMAND DRAIN (R42). -/
def decideLaneDrain (d : List Byte) (s : State) : Answer := laneCommand false false d s (drainLane s)

/-- LANE_COMMAND DRAIN (R42). -/
def execLaneDrain (s : State) : Result := serve .laneDrain decideLaneDrain s

/-- LANE PURGE on a lane (R44); a READ_CARD behind it that sees an earlier state sees the same cards marked (R160). -/
def purgeLane (s : State) (l : Lane) : Answer :=
  match (s.lane l).state with
  | .run | .drain =>
    takeLane .done false l (((s.mapWeb l (Card.addReason .lanePurge)).updLane l (fun r => { r with state := .drain })).eachView
      (CardView.purge l (s.lane l).web (Card.addReason .lanePurge)))
  | .idle => takeLane .done false l s
  | .fault => refuseLane .refusedState l s

/-- LANE_COMMAND PURGE (R44). -/
def decideLanePurge (d : List Byte) (s : State) : Answer := laneCommand false false d s (purgeLane s)

/-- LANE_COMMAND PURGE (R44). -/
def execLanePurge (s : State) : Result := serve .lanePurge decideLanePurge s

/-- A faulted lane returns to IDLE: the run-end close, its event held unless one is held already (R48). -/
def State.clearLane (s : State) (l : Lane) : State :=
  let closed := (s.lane l).enterIdle.runEndClose (s.assignedMode l) false
  s.setLane l { closed.1 with held := closed.1.held <|> closed.2 }

/-- LANE CLEAR on a lane (R48). -/
def clearLane (s : State) (l : Lane) : Answer :=
  let r := s.lane l
  match r.state with
  | .fault =>
    if r.web = [] ∧ s.gateOf l = [] ∧ r.blind = 0 then takeLane .done false l (s.clearLane l)
    else refuseLane .refusedBusy l s
  | .idle => takeLane .done false l s
  | .run | .drain => refuseLane .refusedState l s

/-- LANE_COMMAND CLEAR (R48). -/
def decideLaneClear (d : List Byte) (s : State) : Answer := laneCommand false false d s (clearLane s)

/-- LANE_COMMAND CLEAR (R48). -/
def execLaneClear (s : State) : Result := serve .laneClear decideLaneClear s

/-- LANE CHANGEOVER on a lane, in the order of R163: the range of the entry, then the lane state (R50). -/
def changeoverLane (d : List Byte) (s : State) (l : Lane) : Answer :=
  match entryByte d with
  | none => refuseFormat s
  | some n =>
    match entryOf n with
    | none => refuseLane .refusedRange l s
    | some e =>
      match (s.lane l).state with
      | .run | .drain =>
        takeLane .scheduled (s.lane l).changeover.isSome l
          (s.updLane l (fun r => { r with changeover := some ⟨e, word16 d 3⟩ }))
      | .idle | .fault => refuseLane .refusedState l s

/-- LANE_COMMAND CHANGEOVER (R50); with the entry given as none it is malformed whatever the lane (R40). -/
def decideLaneChangeover (d : List Byte) (s : State) : Answer :=
  if entryByte d = none then refuseFormat s else laneCommand true true d s (changeoverLane d s)

/-- LANE_COMMAND CHANGEOVER (R50). -/
def execLaneChangeover (s : State) : Result := serve .laneChangeover decideLaneChangeover s

/-- Set or clear a flag of a lane; taken in every lane state (R52, R53). -/
def flagLane (f : LaneRec → LaneRec) (s : State) (l : Lane) : Answer := takeLane .done false l (s.updLane l f)

/-- LANE_COMMAND FORCE ON (R52). -/
def decideForceOn (d : List Byte) (s : State) : Answer :=
  laneCommand false false d s (flagLane (fun r => { r with force := true }) s)

/-- LANE_COMMAND FORCE ON (R52). -/
def execForceOn (s : State) : Result := serve .forceOn decideForceOn s

/-- LANE_COMMAND FORCE OFF (R52). -/
def decideForceOff (d : List Byte) (s : State) : Answer :=
  laneCommand false false d s (flagLane (fun r => { r with force := false }) s)

/-- LANE_COMMAND FORCE OFF (R52). -/
def execForceOff (s : State) : Result := serve .forceOff decideForceOff s

/-- LANE_COMMAND AUTO_PURGE ON (R53): the lane state is not changed, even with STATION_LOST already active. -/
def decideAutoPurgeOn (d : List Byte) (s : State) : Answer :=
  laneCommand false false d s (flagLane (fun r => { r with autoPurge := true }) s)

/-- LANE_COMMAND AUTO_PURGE ON (R53). -/
def execAutoPurgeOn (s : State) : Result := serve .autoPurgeOn decideAutoPurgeOn s

/-- LANE_COMMAND AUTO_PURGE OFF (R53). -/
def decideAutoPurgeOff (d : List Byte) (s : State) : Answer :=
  laneCommand false false d s (flagLane (fun r => { r with autoPurge := false }) s)

/-- LANE_COMMAND AUTO_PURGE OFF (R53). -/
def execAutoPurgeOff (s : State) : Result := serve .autoPurgeOff decideAutoPurgeOff s

end Sys2Proof.Machine
end

