-- ==== Sys2Proof/Machine/Tables.lean ====
section
/-! DEFINITION. The requests that read and write the tables: Slot Map (R148), Station Map (R6, R7), recipe banks (R63, R65 to R67),
role (R143). -/

namespace Sys2Proof.Machine

/-! ## Slot Map -/

/-- The whole Slot Map as READ_SLOT_MAP returns it (R158). -/
def State.slotMapBytes (s : State) : List Byte := s.slotMap.toList.map SlotUse.code

/-- The pairs of a MAP_SLOT operand: slot number and use code (R158). -/
def slotPairs (d : List Byte) : List (Nat × Byte) :=
  (List.range (natAt d 0)).map (fun j => (natAt d (1 + 2 * j), byteAt d (2 + 2 * j)))

/-- Write one pair into a map; later pairs replace earlier ones (R148). -/
def writePair (m : Vector SlotUse 48) (p : Nat × Byte) : Vector SlotUse 48 :=
  match useOf p.2 with
  | some u => m.setIfInBounds p.1 u
  | none => m

/-- The map holds no use but UNUSED in two entries (R147). -/
def slotMapDistinct (m : Vector SlotUse 48) : Bool := (m.toList.filter (fun u => u ≠ .unused)).Nodup

/-- MAP_SLOT, in the order of R148. A refusal but REFUSED_FORMAT returns the map as it stands (assumption 8). -/
def decideMapSlot (d : List Byte) (s : State) : Answer :=
  let n := natAt d 0
  let pairs := slotPairs d
  if n = 0 || 16 < n || !restZero d (1 + 2 * n) || pairs.any (fun p => useMalformed p.2) then refuseFormat s
  else if !s.allIdle then refuse .refusedState s.slotMapBytes s
  else if pairs.any (fun p => decide (47 < p.1) || (useOf p.2).isNone) then refuse .refusedRange s.slotMapBytes s
  else
    let m := pairs.foldl writePair s.slotMap
    if slotMapDistinct m then
      let s := { s with slotMap := m }
      ⟨.done, s.slotMapBytes, s⟩
    else refuse .refusedDuplicate s.slotMapBytes s

/-- MAP_SLOT (R148). -/
def execMapSlot (s : State) : Result := serve .mapSlot decideMapSlot s

/-- READ_SLOT_MAP (R148). -/
def decideReadSlotMap (d : List Byte) (s : State) : Answer :=
  if restZero d 0 then ⟨.done, s.slotMapBytes, s⟩ else refuseFormat s

/-- READ_SLOT_MAP (R148). -/
def execReadSlotMap (s : State) : Result := serve .readSlotMap decideReadSlotMap s

/-! ## Station Map -/

/-- SET_STATIONS, in the order of R6; its reply carries no data. A READ_CARD behind it that sees an earlier state sees the new map
(R160). -/
def decideSetStations (d : List Byte) (s : State) : Answer :=
  if !restZero d 14 then refuseFormat s
  else if !s.allIdle || !s.gate.isEmpty then refuse .refusedState [] s
  else if !(stationsOf d).inRange then refuse .refusedRange [] s
  else ⟨.done, [], ({ s with stations := some (stationsOf d) } : State).eachView (fun v => { v with stations := some (stationsOf d) })⟩

/-- SET_STATIONS (R6). -/
def execSetStations (s : State) : Result := serve .setStations decideSetStations s

/-- READ_STATIONS: the map state and every field, 0 while INVALID (R7). -/
def decideReadStations (d : List Byte) (s : State) : Answer :=
  if restZero d 0 then ⟨.done, boolByte s.stations.isSome :: s.map.bytes, s⟩ else refuseFormat s

/-- READ_STATIONS (R7). -/
def execReadStations (s : State) : Result := serve .readStations decideReadStations s

/-! ## Recipe banks -/

/-- The LOAD_RECIPE reply (R63, R158). -/
def State.recipeReply (s : State) (b : Bank) (n : EntryNo) : List Byte :=
  [b.code, byteOf n, (s.entry b n).stateByte, byteOf (s.entry b n).refs]

/-- A LOAD_RECIPE operand is malformed (R63): an unknown kind, or data beyond a recipe or a CLEAR. -/
def loadRecipeMalformed (d : List Byte) : Bool :=
  match natAt d 2 with
  | 1 => !restZero d 38
  | 2 => !restZero d 3
  | _ => true

/-- LOAD_RECIPE, in the order of R63. -/
def decideLoadRecipe (d : List Byte) (s : State) : Answer :=
  if loadRecipeMalformed d then refuseFormat s
  else
    match bankOf (byteAt d 0), entryOf (natAt d 1) with
    | some b, some n =>
      let e := s.entry b n
      if b = s.active then refuse .refusedState (s.recipeReply b n) s
      else if 0 < e.refs then refuse .refusedInUse (s.recipeReply b n) s
      else if natAt d 2 = 2 then
        let s := s.setEntry b n { e with recipe := none }
        ⟨.done, s.recipeReply b n, s⟩
      else
        match (recipeOf d 3).filter Recipe.inRange with
        | none => refuse .refusedRange (s.recipeReply b n) s
        | some r =>
          let s := s.setEntry b n { e with recipe := some r }
          ⟨.done, s.recipeReply b n, s⟩
    | _, _ => refuse .refusedRange [] s

/-- LOAD_RECIPE (R63). -/
def execLoadRecipe (s : State) : Result := serve .loadRecipe decideLoadRecipe s

/-- READ_RECIPE (R65). -/
def decideReadRecipe (d : List Byte) (s : State) : Answer :=
  if !restZero d 2 then refuseFormat s
  else
    match bankOf (byteAt d 0), entryOf (natAt d 1) with
    | some b, some n => ⟨.done, s.recipeReply b n ++ (s.entry b n).bytes, s⟩
    | _, _ => refuse .refusedRange [] s

/-- READ_RECIPE (R65). -/
def execReadRecipe (s : State) : Result := serve .readRecipe decideReadRecipe s

/-- The SWITCH_BANK reply: active bank, switch pending, pending index (R66, R167). -/
def State.switchReply (s : State) : List Byte :=
  [s.active.code, boolByte s.pendingSwitch.isSome] ++ bytes16 (s.pendingSwitch.getD 0)

/-- SWITCH_BANK with an index (R66). -/
def decideSwitchBank (d : List Byte) (s : State) : Answer :=
  if !restZero d 3 then refuseFormat s
  else if s.pendingSwitch.isSome then refuse .refusedBusy s.switchReply s
  else
    let s := { s with pendingSwitch := some (word16 d 1) }
    ⟨.scheduled, s.switchReply, s⟩

/-- SWITCH_BANK with an index (R66). -/
def execSwitchBank (s : State) : Result := serve .switchBank decideSwitchBank s

/-- SWITCH_BANK CANCEL; its index is 0 (R67, R167). -/
def decideSwitchBankCancel (d : List Byte) (s : State) : Answer :=
  if !restZero d 1 then refuseFormat s
  else if s.pendingSwitch.isSome then
    let s := { s with pendingSwitch := none }
    ⟨.done, s.switchReply, s⟩
  else refuse .refusedState s.switchReply s

/-- SWITCH_BANK CANCEL (R67). -/
def execSwitchBankCancel (s : State) : Result := serve .switchBankCancel decideSwitchBankCancel s

/-! ## Role -/

/-- The SET_ROLE reply: present role and pending role (R143; its layout is assumption 8's). -/
def State.roleReply (s : State) : List Byte := [s.role.code, pendingRoleCode s.pendingRole]

/-- The role a SET_ROLE code names (R143, R156). -/
def roleOf (b : Byte) : Option Role := if b = 1 then some .monitor else if b = 2 then some .active else none

/-- SET_ROLE (R143). -/
def decideSetRole (d : List Byte) (s : State) : Answer :=
  if !restZero d 1 then refuseFormat s
  else
    match roleOf (byteAt d 0) with
    | none => refuse .refusedRange s.roleReply s
    | some r =>
      let s := { s with pendingRole := some r }
      ⟨.done, s.roleReply, s⟩

/-- SET_ROLE (R143). -/
def execSetRole (s : State) : Result := serve .setRole decideSetRole s

end Sys2Proof.Machine
end

