-- ==== Sys2Proof/Machine/Readout.lean ====
section
/-! DEFINITION. The readouts: IDENTIFY (R164), READ_STATE (R165, R166), READ_CARD (R34, R35), READ_COUNTERS (R168) and
CLEAR_COUNTERS (R169). -/

namespace Sys2Proof.Machine

/-! ## Identity and state -/

/-- IDENTIFY (R164): vendor 0x5E2A, part 0x3616, revision 0x01, node address, role, pending role. -/
def decideIdentify (d : List Byte) (s : State) : Answer :=
  if restZero d 0 then
    ⟨.done, [0x5E, 0x2A, 0x36, 0x16, 0x01, s.nodeAddr.zeroExtend 8, s.role.code, pendingRoleCode s.pendingRole], s⟩
  else refuseFormat s

/-- IDENTIFY (R164). -/
def execIdentify (s : State) : Result := serve .identify decideIdentify s

/-- Page 0 of READ_STATE: the six lane summaries (R165). -/
def State.page0 (s : State) : List Byte := (List.finRange 6).flatMap (s.laneSummaryBytes false)

/-- Page 1 of READ_STATE: the part as a whole (R166). -/
def State.page1 (s : State) : List Byte :=
  [s.role.code, pendingRoleCode s.pendingRole] ++ s.switchReply ++ nat16 (s.timer.average.getD 0)
    ++ [boolByte s.timer.stall, boolByte s.lastIndex.isSome] ++ bytes16 (s.lastIndex.getD 0)
    ++ [boolByte s.stations.isSome, byteOf s.inUse.length] ++ nat16 s.ring.discarded ++ nat16 s.ring.crcErrors
    ++ nat16 s.ring.slotsAbsent ++ nat16 s.ring.unverified ++ nat16 s.ring.mismatches

/-- READ_STATE (R165, R166). -/
def decideReadState (d : List Byte) (s : State) : Answer :=
  if !restZero d 1 then refuseFormat s
  else
    match natAt d 0 with
    | 0 => ⟨.done, s.page0, s⟩
    | 1 => ⟨.done, s.page1, s⟩
    | _ => refuse .refusedRange [] s

/-- READ_STATE (R165, R166). -/
def execReadState (s : State) : Result := serve .readState decideReadState s

/-! ## Card readout -/

/-- The card a READ_CARD addresses, with its list code, WEB 1 or GATE 2 (R34). -/
def CardView.addressed (v : CardView) (l : Lane) (pos : Nat) : Option (Byte × Card) :=
  match v.lastIndex with
  | none => none
  | some k =>
    if pos < 32 then
      if pos < (mapOf v.stations).e then (findFormed v.webs[l] (k - BitVec.ofNat 16 pos)).map (fun c => (1, c)) else none
    else (ofLane l v.gate)[pos - 32]?.map (fun c => (2, c))

/-- The commanded set as bits (R159). -/
def Commanded.bits (c : Commanded) : Nat := bitsFromLow [c.load, c.inspect, c.card, c.sealing]

/-- The presence byte (R159). -/
def Card.presence (c : Card) : Nat :=
  bitsFromLow [c.loadResult.isSome, c.inspection.isSome, c.placed.isSome, c.sealRec.isSome,
    (c.sealRec.bind SealRecord.achieved).isSome, (c.sealRec.bind SealRecord.contact).isSome, c.gateIndex.isSome]

/-- Load result: cavity count and loaded counts, 0 while absent (R35, R159). -/
def loadBytes (r : Option (List Nat)) : List Byte := byteOf (r.getD []).length :: pack8 (r.getD [])

/-- Inspection result: verdicts and weight, 65535 = not measured; 0 while absent (R159). -/
def inspectionBytes (r : Option InspectResult) : List Byte :=
  match r with
  | some i => bitsFromTop i.fails :: nat16 (i.weight.getD 65535)
  | none => [0, 0, 0]

/-- The segment base and mask of a dwell (R159). -/
def segmentBytes (d : Nat) : List Byte :=
  nat16 (d / 8) ++ [bitsFromTop ((List.range 8).map (fun i => decide (segmentDuration d i = d / 8 + 1)))]

/-- Seal record and segment durations, bytes 27 to 39; 0 while absent (R159). -/
def sealBytes (r : Option SealRecord) : List Byte :=
  match r with
  | some sr =>
    nat16 sr.z ++ int16 sr.excess ++ nat16 sr.dwell ++ [sr.outcome.code] ++ nat16 (sr.achieved.getD 0)
      ++ [boolByte (sr.contact.getD false)] ++ segmentBytes sr.dwell
  | none => List.replicate 13 0

/-- The reason set as bits, bit r - 1 for code r (R159). -/
def reasonBits (rs : List Reason) : Nat := (rs.map (fun r => 2 ^ (r.code - 1))).sum

/-- The card readout (R35, R159). -/
def cardBytes (list : Byte) (last : Index) (c : Card) : List Byte :=
  [list, byteOf c.record] ++ bytes24 c.serial ++ [byteOf c.lane] ++ bytes16 c.formed ++ nat16 (c.position last)
    ++ [c.bank.code, byteOf c.entry] ++ bytes32 c.sku ++ [byteOf c.commanded.bits, byteOf c.presence]
    ++ loadBytes c.loadResult ++ inspectionBytes c.inspection ++ [boolByte (c.placed.getD false)] ++ sealBytes c.sealRec
    ++ nat16 (reasonBits c.reasons) ++ [byteOf (reasonCode c.firstReason)] ++ bytes16 (c.gateIndex.getD 0)

/-- What the READ_CARD at the head of the buffer sees: the state kept for it before the pitch steps of a cycle frame that was ahead of it,
if one was (R33), and otherwise the state as it stands. -/
def State.readView (s : State) : CardView := (s.cardViews.find? (fun v => v.place = 0)).getD (s.cardView 0)

/-- READ_CARD (R34). -/
def decideReadCard (d : List Byte) (s : State) : Answer :=
  if !restZero d 2 then refuseFormat s
  else
    match laneOf (natAt d 0) with
    | none => refuse .refusedRange [] s
    | some l =>
      if 34 < natAt d 1 then refuse .refusedRange [] s
      else
        match s.readView.addressed l (natAt d 1) with
        | some (list, c) => ⟨.done, cardBytes list (s.readView.lastIndex.getD 0) c, s⟩
        | none => ⟨.done, [], s⟩

/-- READ_CARD (R34). -/
def execReadCard (s : State) : Result := serve .readCard decideReadCard s

/-! ## Production counters -/

/-- A page of twelve counters; page 1 ends with three fields of 0 (R130, R168). -/
def LaneRec.counterPage (r : LaneRec) (page : Nat) : List Byte :=
  (List.range 12).flatMap (fun j => bytes32 (r.counters.toList.getD (12 * page + j) 0))

/-- READ_COUNTERS (R168). -/
def decideReadCounters (d : List Byte) (s : State) : Answer :=
  if !restZero d 2 then refuseFormat s
  else
    match laneOf (natAt d 0) with
    | none => refuse .refusedRange [] s
    | some l => if 1 < natAt d 1 then refuse .refusedRange [] s else ⟨.done, (s.lane l).counterPage (natAt d 1), s⟩

/-- READ_COUNTERS (R168). -/
def execReadCounters (s : State) : Result := serve .readCounters decideReadCounters s

/-- Zero the production counters of a lane (R131, R169). -/
def LaneRec.clearCounters (r : LaneRec) : LaneRec := { r with counters := Vector.replicate 21 0 }

/-- CLEAR_COUNTERS (R169): one lane's, or with 0xFF every lane's and the Ring Port's. -/
def decideClearCounters (d : List Byte) (s : State) : Answer :=
  if !restZero d 1 then refuseFormat s
  else if natAt d 0 = 255 then
    ⟨.done, [0xFF], { s.eachLane (fun l t => t.updLane l LaneRec.clearCounters) with ring := ⟨0, 0, 0, 0, 0⟩ }⟩
  else
    match laneOf (natAt d 0) with
    | none => refuse .refusedRange [] s
    | some l => ⟨.done, [byteAt d 0], s.updLane l LaneRec.clearCounters⟩

/-- CLEAR_COUNTERS (R169). -/
def execClearCounters (s : State) : Result := serve .clearCounters decideClearCounters s

end Sys2Proof.Machine
end

