-- ==== Sys2Proof/Machine/Processing.lean ====
section
/-! DEFINITION. FRAME_PROCESSING: the frame at the head of the Frame Buffer is taken and checked (R145), and the state is
kept that READ_CARD requests held behind a cycle frame see, before its pitch steps (R33). -/

namespace Sys2Proof.Machine

/-- A READ_CARD request that this node answers under its address (R145, R160). -/
def isCardRequest (addr : BitVec 6) (f : Frame) : Bool :=
  frameFate addr f = .service && requestOf f = .readCard && byteAt f 1 ≠ 63

/-- The places of the READ_CARD requests held behind the cycle frame at the head of the buffer, less those with a view kept already
(R33). -/
def State.heldCards (s : State) : List Nat :=
  ((s.buffer.tail.zipIdx 1).filter (fun p => isCardRequest s.nodeAddr p.1 && !s.cardViews.any (fun v => v.place = p.2))).map Prod.snd

/-- The state before the pitch steps is kept for the held READ_CARD requests (R33). Each is answered on it when its frame is processed (R145),
with the effects of the requests that arrived before it (R160). DESIGN CHOICE (assumption 21, unsafe): the steps are left out of what it sees
and the effects of those requests are not. -/
def State.holdViews (s : State) : State := { s with cardViews := s.cardViews ++ s.heldCards.map s.cardView }

/-- A good cycle frame is handed on to tracking (R145), the state kept first for the READ_CARD requests held behind it, unless it is a repeat,
which has no pitch steps (R33, R54). -/
def State.handOnCycle (s : State) (f : Frame) : State :=
  { (if classify s.lastIndex (frameIndex f) = .again then s else s.holdViews) with phase := .cycle }

/-- FRAME_PROCESSING (R145): the oldest frame is taken once the frame before it has left; one already taken is not taken again
(assumption 5). -/
def execFrameProcessing (s : State) : Result :=
  .next (if s.onRing ∧ s.phase = .waiting then
      match s.buffer with
      | [] => s
      | f :: _ =>
        match frameFate s.nodeAddr f with
        | .bad cause =>
          { s with ring := s.ring.addCrcError, phase := .sending }.latchChip .frameCrc [byteAt f 0, cause]
        | .pass => { s with phase := .sending }
        | .cycle => s.handOnCycle f
        | .service => { s with phase := .service }
    else s)

end Sys2Proof.Machine
end

