-- ==== Sys2Proof/Machine/Reset.lean ====
section
/-! DEFINITION. DEVICE_RESET, RESET_ASSERTED and SUPPLY_REMOVED (R142), and RESTART (R170, R171). -/

namespace Sys2Proof.Machine

/-- A node address: 1 to 61 (R142). -/
def validAddress (a : BitVec 6) : Bool := 1 ≤ a.toNat && a.toNat ≤ 61

/-- The role the straps give (R142). -/
def strapRole (addr : BitVec 6) (roleHigh : Bool) : Role :=
  if validAddress addr then (if roleHigh then .active else .monitor) else .bypass

/-- DEVICE_RESET (R142): the straps are latched, the bypass drive comes on with a valid address, and every other piece of state takes
its device-reset value. The queue of waiting commands is not the part's. -/
def execDeviceReset (addr : BitVec 6) (roleHigh : Bool) (s : State) : Result :=
  .next { State.reset with
    nodeAddr := addr
    role := strapRole addr roleHigh
    bypdrv := validAddress addr
    pending := s.pending }

/-- RESET_ASSERTED (R142): the bypass drive goes off and the part is out of operation until reset ends. An unpowered part stays
unpowered. -/
def execResetAsserted (s : State) : Result :=
  .next (if s.power = .unpowered then s else { s with power := .heldInReset, bypdrv := false })

/-- SUPPLY_REMOVED (R142): the bypass drive goes off and the state is lost. Nothing reads the state before power-on sets every piece
of it; the model holds the device-reset values meanwhile (assumption 2). -/
def execSupplyRemoved (s : State) : Result :=
  .next { State.reset with power := .unpowered, bypdrv := false, pending := s.pending }

/-- A lane record after RESTART: as after device reset, with the counters and the alarm masks kept (R57, R170, R171, R178). -/
def LaneRec.restart (r : LaneRec) : LaneRec :=
  { LaneRec.reset with counters := r.counters, alarms := r.alarms.map (fun a => { a with latch := none }) }

/-- An entry after RESTART: no card references it (R73). -/
def Entry.restart (e : Entry) : Entry := { e with refs := 0 }

/-- The state after RESTART (R36, R57, R73, R170, R171, R178); a READ_CARD behind it finds no card, whatever state it sees (R160). -/
def State.restart (s : State) : State :=
  { s with
    free := List.finRange 256
    gate := []
    lanes := s.lanes.map LaneRec.restart
    bankA := s.bankA.map Entry.restart
    bankB := s.bankB.map Entry.restart
    pendingSwitch := none
    lastIndex := none
    cardViews := s.cardViews.map CardView.restart
    timer := ⟨0, none, false⟩
    chipAlarms := s.chipAlarms.map (fun a => { a with latch := none })
    stopReason := 0 }

/-- RESTART (R170). -/
def decideRestart (d : List Byte) (s : State) : Answer := if restZero d 0 then ⟨.done, [], s.restart⟩ else refuseFormat s

/-- RESTART (R170). -/
def execRestart (s : State) : Result := serve .restart decideRestart s

end Sys2Proof.Machine
end

