-- ==== Sys2Proof/Machine/ZoneRequests.lean ====
section
/-! DEFINITION. SET_ZONE (R112) and READ_ZONES (R113). -/

namespace Sys2Proof.Machine

/-- The SET_ZONE reply (R112, R167). -/
def State.zoneReply (s : State) (l : Lane) : List Byte :=
  let z := s.zone l
  [byteOf l, signedByte z.offset, byteOf z.limit, z.state.code] ++ nat16 z.z ++ [byteOf z.streak]

/-- SET_ZONE (R112): offset and hold limit are replaced; the conversion in flight keeps those it began with. -/
def decideSetZone (d : List Byte) (s : State) : Answer :=
  if !restZero d 3 then refuseFormat s
  else
    match laneOf (natAt d 0) with
    | none => refuse .refusedRange [] s
    | some l =>
      if 7 < magnitude (byteAt d 1) ∨ natAt d 2 = 0 then refuse .refusedRange (s.zoneReply l) s
      else
        let s := s.setZone l { s.zone l with offset := signedOf (byteAt d 1), limit := natAt d 2 }
        ⟨.done, s.zoneReply l, s⟩

/-- SET_ZONE (R112). -/
def execSetZone (s : State) : Result := serve .setZone decideSetZone s

/-- The seven bytes of a zone in the READ_ZONES reply (R159). -/
def Zone.bytes (z : Zone) : List Byte :=
  [z.state.code] ++ nat16 z.z ++ [byteOf z.streak, byteOf z.history.length, signedByte z.offset, byteOf z.limit]

/-- One zone is read, after the conversions that end before it is (R113). -/
def readZone (during : List (List RawCode)) (p : State × List Byte) (l : Lane) : State × List Byte :=
  let s := (during.getD l []).foldl (fun t raw => t.convert raw (fun _ => false)) p.1
  (s, p.2 ++ (s.zone l).bytes)

/-- READ_ZONES (R113). A conversion that ends while the reply is being written acts as any conversion does (R107). DESIGN CHOICE (assumption
23, unsafe): R113 orders the reply's bytes and not the readings; the zones are read in that order, zone 0 first and zone 5 last. -/
def decideReadZones (during : List (List RawCode)) (d : List Byte) (s : State) : Answer :=
  if restZero d 0 then
    let p := (List.finRange 6).foldl (readZone during) (s, [])
    ⟨.done, p.2, p.1⟩
  else refuseFormat s

/-- READ_ZONES (R113). -/
def execReadZones (during : List (List RawCode)) (s : State) : Result := serve .readZones (decideReadZones during) s

end Sys2Proof.Machine
end

