-- ==== Sys2Proof/Machine/Dispatch.lean ====
section
/-! DEFINITION. One arm per command: the direct call of its meaning. -/

namespace Sys2Proof.Machine

def exec (i : Instr) (s : State) : Host.Outcome State Fault Refusal :=
  match i with
  | .deviceReset addr roleHigh => Sys2Proof.Machine.execDeviceReset addr roleHigh s
  | .frameArrival bytes => Sys2Proof.Machine.execFrameArrival bytes s
  | .frameDeparture => Sys2Proof.Machine.execFrameDeparture s
  | .frameProcessing => Sys2Proof.Machine.execFrameProcessing s
  | .cycleFrame gapOrder ticks => Sys2Proof.Machine.execCycleFrame gapOrder ticks s
  | .pitchCountSaturation => Sys2Proof.Machine.execPitchCountSaturation s
  | .conversionEnd raw => Sys2Proof.Machine.execConversionEnd raw s
  | .zoneFaultEntryAfterStep lane => Sys2Proof.Machine.execZoneFaultEntryAfterStep lane s
  | .identify => Sys2Proof.Machine.execIdentify s
  | .readState => Sys2Proof.Machine.execReadState s
  | .mapSlot => Sys2Proof.Machine.execMapSlot s
  | .readSlotMap => Sys2Proof.Machine.execReadSlotMap s
  | .setStations => Sys2Proof.Machine.execSetStations s
  | .readStations => Sys2Proof.Machine.execReadStations s
  | .loadRecipe => Sys2Proof.Machine.execLoadRecipe s
  | .readRecipe => Sys2Proof.Machine.execReadRecipe s
  | .switchBank => Sys2Proof.Machine.execSwitchBank s
  | .switchBankCancel => Sys2Proof.Machine.execSwitchBankCancel s
  | .laneRun => Sys2Proof.Machine.execLaneRun s
  | .laneDrain => Sys2Proof.Machine.execLaneDrain s
  | .lanePurge => Sys2Proof.Machine.execLanePurge s
  | .laneClear => Sys2Proof.Machine.execLaneClear s
  | .laneChangeover => Sys2Proof.Machine.execLaneChangeover s
  | .forceOn => Sys2Proof.Machine.execForceOn s
  | .forceOff => Sys2Proof.Machine.execForceOff s
  | .autoPurgeOn => Sys2Proof.Machine.execAutoPurgeOn s
  | .autoPurgeOff => Sys2Proof.Machine.execAutoPurgeOff s
  | .readCard => Sys2Proof.Machine.execReadCard s
  | .readCounters => Sys2Proof.Machine.execReadCounters s
  | .clearCounters => Sys2Proof.Machine.execClearCounters s
  | .readAlarms => Sys2Proof.Machine.execReadAlarms s
  | .setAlarmMasks => Sys2Proof.Machine.execSetAlarmMasks s
  | .setZone => Sys2Proof.Machine.execSetZone s
  | .readZones during => Sys2Proof.Machine.execReadZones during s
  | .setRole => Sys2Proof.Machine.execSetRole s
  | .restart => Sys2Proof.Machine.execRestart s
  | .unknownRequest => Sys2Proof.Machine.execUnknownRequest s
  | .resetAsserted => Sys2Proof.Machine.execResetAsserted s
  | .supplyRemoved => Sys2Proof.Machine.execSupplyRemoved s

end Sys2Proof.Machine
end

