-- ==== Sys2Proof/Safety.lean ====
section
/-! DEFINITION. What counts as a safe run: the laws of the whole machine that the manual states and every step is to keep. Each is a
decidable proposition about one state, true at `State.reset`. -/

namespace Sys2Proof.Safety

open Sys2Proof.Machine

/-- Every one of the 256 record numbers is on exactly one list, once (R23, R24). -/
abbrev PoolSound (s : State) : Prop := (s.free ++ s.inUse.map Card.record).Perm (List.finRange 256)

/-- A web card belongs to its lane and has no gate entry; a gate list card has one, and a reason (R17, R22, R130). -/
abbrev ListsSound (s : State) : Prop :=
  (∀ l : Lane, ∀ c ∈ (s.lane l).web, c.lane = l ∧ c.gateIndex = none) ∧
    ∀ c ∈ s.gate, c.gateIndex.isSome = true ∧ c.reasons ≠ []

/-- The number of tracked cards whose recipe reference names an entry. -/
def references (s : State) (b : Bank) (n : EntryNo) : Nat := s.inUse.countP (fun c => c.bank = b && c.entry = n)

/-- The reference count of every entry is the number of records off the free list that name it (R62). -/
abbrev RefsSound (s : State) : Prop :=
  ∀ n : EntryNo, (s.entry .A n).refs = references s .A n ∧ (s.entry .B n).refs = references s .B n

/-- A lane in RUN or DRAIN. -/
abbrev Working (r : LaneRec) : Prop := r.state = .run ∨ r.state = .drain

/-- A lane in IDLE holds no card record and no pending changeover; one in FAULT has no pending changeover either (R39, R45, R50). -/
abbrev IdleSound (s : State) : Prop :=
  ∀ l : Lane,
    ((s.lane l).state = .idle → (s.lane l).web = [] ∧ s.gateOf l = []) ∧
      (¬ Working (s.lane l) → (s.lane l).changeover = none)

/-- A blind-window count above 0 stands only in FAULT, over an empty web list, and never above 31 (R49, R120). -/
abbrev BlindSound (s : State) : Prop :=
  ∀ l : Lane, 0 < (s.lane l).blind → (s.lane l).state = .fault ∧ (s.lane l).web = [] ∧ (s.lane l).blind ≤ 31

/-- Every reason is in a card's set once (R21). -/
abbrev ReasonsSound (s : State) : Prop := ∀ c ∈ s.inUse, c.reasons.Nodup

/-- The sum of a lane's thirteen per-reason counters. -/
def reasonSum (r : LaneRec) : Counter := ((r.counters.toList.drop 3).take 13).foldl (· + ·) 0

/-- The rejected counter is the sum of the per-reason counters, modulo 2^32 (R131). -/
abbrev RejectedSound (s : State) : Prop := ∀ l : Lane, (s.lane l).counters[2] = reasonSum (s.lane l)

/-- Every VALID entry holds values in range, and an entry that tracked cards name is VALID (R58, R62). -/
abbrev EntrySound (e : Entry) : Prop := (∀ r ∈ e.recipe, r.inRange = true) ∧ (0 < e.refs → e.valid = true)

/-- Both banks hold sound entries, and the assigned entry of a lane in RUN or DRAIN is VALID in the active bank (R29, R41, R62,
R68). -/
abbrev RecipesSound (s : State) : Prop :=
  (∀ n : EntryNo, EntrySound (s.entry .A n) ∧ EntrySound (s.entry .B n)) ∧
    ∀ l : Lane, Working (s.lane l) → (s.entry s.active (s.lane l).assigned).valid = true

/-- The Station Map is in range while VALID, and no lane has left IDLE while it is INVALID (R2, R41). -/
abbrev StationsSound (s : State) : Prop :=
  (∀ m ∈ s.stations, m.inRange = true) ∧ (s.stations = none → s.allIdle = true)

/-- No use is mapped twice (R147), and a lane that is not IDLE has its eleven uses mapped (R41, R147). -/
abbrev SlotMapSound (s : State) : Prop :=
  slotMapDistinct s.slotMap = true ∧ ∀ l : Lane, (s.lane l).state ≠ .idle → s.laneMapped l = true

/-- The counters that saturate stay in their ranges (R12, R14, R84, R146). -/
abbrev CountsSound (s : State) : Prop :=
  s.timer.count ≤ 65535 ∧ (∀ p ∈ s.timer.average, 100 ≤ p ∧ p ≤ 65535) ∧
    (∀ l : Lane, (s.lane l).silence.load ≤ 15 ∧ (s.lane l).silence.inspect ≤ 15 ∧ (s.lane l).silence.card ≤ 15 ∧
      (s.lane l).silence.sealing ≤ 15) ∧
    s.ring.discarded ≤ 65535 ∧ s.ring.crcErrors ≤ 65535 ∧ s.ring.slotsAbsent ≤ 65535 ∧ s.ring.unverified ≤ 65535 ∧
    s.ring.mismatches ≤ 65535

/-- A zone's items are in range: offset and hold limit, a history of at most four codes of 10 bits, full in READY and HOLDING and short
in WARMING, Z and the streak (R107 to R110, R112). -/
abbrev ZoneSound (z : Zone) : Prop :=
  -7 ≤ z.offset ∧ z.offset ≤ 7 ∧ 1 ≤ z.limit ∧ z.limit ≤ 255 ∧ z.history.length ≤ 4 ∧ (∀ c ∈ z.history, c ≤ 1023) ∧
    z.z ≤ 3069 ∧ z.streak ≤ 255 ∧ (z.state = .ready ∨ z.state = .holding → z.history.length = 4) ∧
    (z.state = .warming → z.history.length < 4) ∧ (z.state = .ready → z.streak = 0)

/-- Every zone is sound (R107 to R112). -/
abbrev ZonesSound (s : State) : Prop := ∀ l : Lane, ZoneSound (s.zone l)

/-- The Frame Buffer holds at most four frames of a length it takes; only the frame at its head is in process, and the views kept for
READ_CARD requests are for frames in it, one for a frame (R33, R144, R145). -/
abbrev BufferSound (s : State) : Prop :=
  s.buffer.length ≤ 4 ∧ (∀ f ∈ s.buffer, frameLengthOk f = true) ∧ (s.phase ≠ .waiting → s.buffer ≠ []) ∧
    (∀ v ∈ s.cardViews, v.place < s.buffer.length) ∧ (s.cardViews.map CardView.place).Nodup

/-- A stop reason stands exactly while the stop request is present (R177). -/
abbrev StopSound (s : State) : Prop := s.stopPresent = true ↔ s.stopReason ≠ 0

/-- The fixed stop-enables are on (R172, R175). -/
abbrev FixedSound (s : State) : Prop :=
  (∀ l : Lane, (s.lane l).alarms[2].stopEn = true ∧ (s.lane l).alarms[5].stopEn = true) ∧ s.chipAlarms[5].stopEn = true

/-- BYPDRV is on exactly in operation with a working role, and the role is BYPASS exactly when the address is no node address (R142,
R143). -/
abbrev BypassSound (s : State) : Prop :=
  (s.bypdrv = true ↔ s.onRing = true) ∧ (s.power = .running → (s.role = .bypass ↔ validAddress s.nodeAddr = false)) ∧
    s.pendingRole ≠ some .bypass

/-- Between frames every lane's zone in FAULT with the lane not IDLE has taken the lane to FAULT, and no entry is due (R46, R115). -/
abbrev ZoneFaultSound (s : State) : Prop :=
  ∀ l : Lane, (s.lane l).faultDue = false ∧ (s.zoneFaultActive l = true → (s.lane l).state = .fault)

/-- An open batch holds at least one card and fewer than its size (R125). -/
abbrev BatchSound (s : State) : Prop := ∀ l : Lane, ∀ b ∈ (s.lane l).openBatch, 1 ≤ b.count ∧ b.count < b.size

/-- Between frames a lane's web list is ordered, oldest card first, with every card at a position from 0 to e - 1 against the last
index, and no two at the same (R3, R25). -/
abbrev WebSound (s : State) : Prop :=
  ∀ l : Lane,
    (∀ k ∈ s.lastIndex, (s.lane l).web.Pairwise (fun x y => y.position k < x.position k) ∧
      ∀ c ∈ (s.lane l).web, c.position k < s.map.e) ∧
      (s.lastIndex = none → (s.lane l).web = [])

/-- How many frames ago a card joined the gate list, at index `k`. -/
def gateAge (k : Index) (c : Card) : Nat := (k - c.gateIndex.getD k).toNat

/-- Between frames a lane's gate entries are ordered by gate index, no two alike, none as old as the gate window, so that there are at
most g of them (R4, R26, R118); with no last index there is none. -/
abbrev GateSound (s : State) : Prop :=
  ∀ l : Lane,
    (∀ k ∈ s.lastIndex, (s.gateOf l).Pairwise (fun x y => gateAge k y < gateAge k x) ∧
      ∀ c ∈ s.gateOf l, gateAge k c < s.map.g) ∧
      (s.lastIndex = none → s.gateOf l = [])

/-! ## The terms the statements use -/

/-- The request whose service frame a command executes (R157); `none` for a command that is no service request. -/
def requestFor : Instr → Option Request
  | .identify => some .identify
  | .readState => some .readState
  | .mapSlot => some .mapSlot
  | .readSlotMap => some .readSlotMap
  | .setStations => some .setStations
  | .readStations => some .readStations
  | .loadRecipe => some .loadRecipe
  | .readRecipe => some .readRecipe
  | .switchBank => some .switchBank
  | .switchBankCancel => some .switchBankCancel
  | .laneRun => some .laneRun
  | .laneDrain => some .laneDrain
  | .lanePurge => some .lanePurge
  | .laneClear => some .laneClear
  | .laneChangeover => some .laneChangeover
  | .forceOn => some .forceOn
  | .forceOff => some .forceOff
  | .autoPurgeOn => some .autoPurgeOn
  | .autoPurgeOff => some .autoPurgeOff
  | .readCard => some .readCard
  | .readCounters => some .readCounters
  | .clearCounters => some .clearCounters
  | .readAlarms => some .readAlarms
  | .setAlarmMasks => some .setAlarmMasks
  | .setZone => some .setZone
  | .readZones _ => some .readZones
  | .setRole => some .setRole
  | .restart => some .restart
  | .unknownRequest => some .unknown
  | .deviceReset _ _ | .frameArrival _ | .frameDeparture | .frameProcessing | .cycleFrame _ _ | .pitchCountSaturation
  | .conversionEnd _ | .zoneFaultEntryAfterStep _ | .resetAsserted | .supplyRemoved => none

/-- The commands that act off the ring too: resets, the supply, and the converter, which runs in every role (R107, R142). -/
def actsOffRing : Instr → Bool
  | .deviceReset _ _ | .resetAsserted | .supplyRemoved | .conversionEnd _ | .zoneFaultEntryAfterStep _ => true
  | .frameArrival _ | .frameDeparture | .frameProcessing | .cycleFrame _ _ | .pitchCountSaturation | .identify | .readState
  | .mapSlot | .readSlotMap | .setStations | .readStations | .loadRecipe | .readRecipe | .switchBank | .switchBankCancel
  | .laneRun | .laneDrain | .lanePurge | .laneClear | .laneChangeover | .forceOn | .forceOff | .autoPurgeOn
  | .autoPurgeOff | .readCard | .readCounters | .clearCounters | .readAlarms | .setAlarmMasks | .setZone | .readZones _
  | .setRole | .restart | .unknownRequest => false

/-- In operation on the ring: powered, out of reset, in MONITOR or ACTIVE (R142). -/
abbrev InOperation (s : State) : Prop := s.power = .running ∧ s.role ≠ .bypass

/-- A good cycle frame `f` is handed on to tracking, with `rest` behind it in the Frame Buffer (R145). -/
abbrev HandsCycle (s : State) (f : Frame) (rest : List Frame) : Prop :=
  InOperation s ∧ s.phase = .cycle ∧ s.buffer = f :: rest

/-- A service frame `f` that carries the request `r` is handed on to the Service Unit (R145, R160). -/
abbrev HandsService (s : State) (f : Frame) (rest : List Frame) (r : Request) : Prop :=
  InOperation s ∧ s.phase = .service ∧ s.buffer = f :: rest ∧ requestOf f = r

/-- It is addressed to the node, not to broadcast (R160). -/
abbrev Serves (s : State) (f : Frame) (rest : List Frame) (r : Request) : Prop :=
  HandsService s f rest r ∧ byteAt f 1 ≠ 63

/-- The state `t` with the frame in process answered under the node address and its processing complete (R161). -/
def replied (t : State) (f : Frame) (rest : List Frame) (status : Status) (data : List Byte) : State :=
  { t with buffer := replyFrame f status data :: rest, phase := .sending }

/-- The refusal of a malformed operand, which carries no reply data (R161). -/
def refusedFormat (s : State) (f : Frame) (rest : List Frame) : State := replied s f rest .refusedFormat []

/-- The state `t` with a broadcast frame counted refused and its processing complete (R162). -/
def countedRefused (t : State) (f : Frame) (rest : List Frame) : State :=
  { t with buffer := countFrame f 7 :: rest, phase := .sending }

/-- The operand of a LANE_COMMAND is well formed: its entry and its index are 0 where the command does not use them (R167). -/
abbrev LaneOperand (f : Frame) (usesEntry usesIndex : Bool) : Prop :=
  restZero (serviceData f) 5 = true ∧ (usesEntry = true ∨ natAt (serviceData f) 2 = 0) ∧
    (usesIndex = true ∨ word16 (serviceData f) 3 = 0)

/-- The least value of a 16-bit index distance from `x` up to `k` (R9 to R11). -/
def indexDistance (x k : Index) : Nat := (k.toNat + 65536 - x.toNat) % 65536

/-- The number of cards whose first reason is `r`. -/
def firstReasons (cs : List Card) (r : Reason) : Nat := cs.countP (fun c => c.firstReason = some r)

/-- The lane record with its alarm in one place latched with these data, unless it is latched already (R173). -/
def latchedLane (r : LaneRec) (kind : LaneAlarm) (data : List Byte) : Vector Alarm 7 :=
  r.alarms.set kind.place (r.alarms[kind.place].set data)

end Sys2Proof.Safety
end

