-- ==== Sys2Proof/Certificates/Slice0/Obligations.lean ====
section
/-! DEFINITION. The statements for the provers, in the order of OBLIGATIONS.json. Each docstring names the rules a statement follows; a
clause that rests on a choice of the model says so and names the log entry. -/

open Sys2Proof Sys2Proof.Machine Sys2Proof.Safety

/-! ## The machine as a whole -/

/-- A step takes the command at the front of the queue and is that command's effect on the state with the queue's rest. The queue is
the model's own. -/
def Obligations.StepRunsFrontCommand : Prop :=
  ∀ (c : Instr) (rest : List Instr) (s : State), s.pending = c :: rest → step s = exec c { s with pending := rest }

/-- Executing a command never looks at or changes the queue of waiting commands. The queue is the model's own. -/
def Obligations.CommandsKeepQueue : Prop :=
  ∀ (c : Instr) (s t : State) (q : List Instr), exec c s = .next t →
    t.pending = s.pending ∧ exec c { s with pending := q } = .next { t with pending := q }

/-- R12: the count of the Pitch Timer advances by 1 at a tick of 0.1 ms and holds at 65535, in every role but BYPASS, out of reset.
That an empty queue stands for one tick, and PITCH_COUNT_SATURATION for the ticks up to 65535, is the model's choice (assumptions 4
and 3). -/
def Obligations.PitchCountRunsAndSaturates : Prop :=
  (∀ s : State, s.pending = [] → InOperation s → ∃ n,
      step s = .next { s with timer := { s.timer with count := n } } ∧
        (s.timer.count < 65535 → n = s.timer.count + 1) ∧ (65535 ≤ s.timer.count → n = 65535)) ∧
    (∀ s : State, s.pending = [] → ¬ InOperation s → step s = .next s) ∧
    ∀ s : State, InOperation s → exec .pitchCountSaturation s = .next { s with timer := { s.timer with count := 65535 } }

/-- R8, R9, R12, R24, R36, R57, R73, R116, R129, R142, R144, R146, R147, R178: the values right after device reset, with the straps of
assumption 1, which are the model's choice; and every invariant below holds there. -/
def Obligations.ResetState : Prop :=
  let s := State.reset
  (s.power = .running ∧ s.bypdrv = true ∧ s.nodeAddr = 12 ∧ s.role = .active ∧ s.pendingRole = none) ∧
    (s.buffer = [] ∧ s.phase = .waiting ∧ s.cardViews = [] ∧ s.lastIndex = none ∧ s.ring = ⟨0, 0, 0, 0, 0⟩ ∧ s.stations = none ∧
      (∀ i : Fin 48, s.slotMap[i] = .unused) ∧ s.timer = ⟨0, none, false⟩) ∧
    (s.free = List.finRange 256 ∧ s.gate = [] ∧ s.serial = 0) ∧
    (∀ l : Lane, (s.lane l).state = .idle ∧ (s.lane l).assigned = 0 ∧ (s.lane l).changeover = none ∧ (s.lane l).force = false ∧
      (s.lane l).autoPurge = false ∧ (s.lane l).blind = 0 ∧ (s.lane l).silence = ⟨0, 0, 0, 0⟩ ∧ (s.lane l).openBatch = none ∧
      (s.lane l).lastBatch = 0 ∧ (s.lane l).held = none ∧ (s.lane l).blindAnswer = false ∧ (s.lane l).stationLost = false ∧
      (s.lane l).web = [] ∧ (∀ i : Fin 21, (s.lane l).counters[i] = 0) ∧
      ∀ i : Fin 7, (s.lane l).alarms[i] = ⟨none, true, decide (i ∉ ([3, 4, 6] : List (Fin 7)))⟩) ∧
    (∀ n : EntryNo, s.entry .A n = ⟨none, 0⟩ ∧ s.entry .B n = ⟨none, 0⟩) ∧ s.active = .A ∧ s.pendingSwitch = none ∧
    (∀ l : Lane, s.zone l = ⟨0, 16, [], 0, .warming, 0⟩) ∧ s.conv.zone = 0 ∧
    (∀ i : Fin 6, s.chipAlarms[i] = ⟨none, true, decide (i ∈ ([2, 4, 5] : List (Fin 6)))⟩) ∧ s.stopReason = 0 ∧
    s.stopPresent = false ∧
  (PoolSound s ∧ ListsSound s ∧ RefsSound s ∧ IdleSound s ∧ BlindSound s ∧ ReasonsSound s ∧ RejectedSound s) ∧
    (RecipesSound s ∧ StationsSound s ∧ SlotMapSound s ∧ CountsSound s ∧ ZonesSound s ∧ BufferSound s ∧ StopSound s) ∧
    FixedSound s ∧ BypassSound s ∧ ZoneFaultSound s ∧ BatchSound s ∧ WebSound s ∧ GateSound s

/-- R142: DEVICE_RESET latches the straps, sets the role and the bypass drive from them, and puts every other piece of state at its
reset value; RESET_ASSERTED takes the drive off and the part out of operation; SUPPLY_REMOVED takes the drive off. The model's choices:
a part without supply holds the reset values (assumption 2), one whose RESET# is asserted holds the values it had (assumption 14), and
DEVICE_RESET and SUPPLY_REMOVED keep the queue and clear the frame last sent, both the model's own (assumption 20). -/
def Obligations.ResetsAndSupply : Prop :=
  (∀ (addr : BitVec 6) (high : Bool) (s : State),
      exec (.deviceReset addr high) s = .next { State.reset with
        nodeAddr := addr
        role := if addr.toNat = 0 ∨ 62 ≤ addr.toNat then .bypass else if high then .active else .monitor
        bypdrv := decide (addr.toNat ≠ 0 ∧ addr.toNat < 62)
        pending := s.pending }) ∧
    (∀ s : State, s.power ≠ .unpowered → exec .resetAsserted s = .next { s with power := .heldInReset, bypdrv := false }) ∧
    (∀ s : State, s.power = .unpowered → exec .resetAsserted s = .next s) ∧
    ∀ s : State, exec .supplyRemoved s =
      .next { State.reset with power := .unpowered, bypdrv := false, pending := s.pending }

/-- A command whose occasion is absent changes nothing: in BYPASS, in reset and unpowered no frame is seen (R142); a frame is processed,
handed on and sent one at a time (R144, R145); and a service row acts for its own request only (R157). That such a command answers the
unchanged state is the model's choice (assumption 5). -/
def Obligations.NothingChangesWithoutOccasion : Prop :=
  (∀ (c : Instr) (s : State), ¬ InOperation s → actsOffRing c = false → exec c s = .next s) ∧
    (∀ (c : Instr) (r : Request) (s : State), requestFor c = some r →
      (s.phase ≠ .service ∨ s.buffer = [] ∨ ∃ f rest, s.buffer = f :: rest ∧ requestOf f ≠ r) → exec c s = .next s) ∧
    (∀ s : State, s.phase ≠ .sending ∨ s.buffer = [] → exec .frameDeparture s = .next s) ∧
    (∀ s : State, s.phase ≠ .waiting ∨ s.buffer = [] → exec .frameProcessing s = .next s) ∧
    (∀ (gapOrder : List Lane) (ticks : List Tick) (s : State), s.phase ≠ .cycle ∨ s.buffer = [] →
      exec (.cycleFrame gapOrder ticks) s = .next s) ∧
    ∀ (raw : RawCode) (l : Lane) (s : State), s.power ≠ .running →
      exec (.conversionEnd raw) s = .next s ∧ exec (.zoneFaultEntryAfterStep l) s = .next s

/-! ## The Frame Buffer and the frame check -/

/-- R144, R145: what an arriving frame does, by its length and the room in the buffer; the frame whose processing is complete leaves from the
head of the buffer; the oldest frame is then checked and forwarded, or handed on by its kind, length and destination. R33: as a cycle frame
that is no repeat is handed on, what the READ_CARD requests for this node held behind it see is kept, as it stands before its pitch steps:
the last index, the Station Map, the web lists and the gate list; their frames stay in their places. That the effects of the requests before
one (R160) are seen on the kept state is the model's choice (assumption 21). The kept views, the frame last sent and the phase of the frame in process are the model's
own fields (assumptions 21, 16 and 17). -/
def Obligations.FrameBufferAndCheck : Prop :=
  (∀ (f : Frame) (s : State), InOperation s →
      (3 ≤ f.length ∧ f.length ≤ 778 ∧ s.buffer.length < 4 →
        exec (.frameArrival f) s = .next { s with buffer := s.buffer ++ [f] }) ∧
      (3 ≤ f.length ∧ f.length ≤ 778 ∧ 4 ≤ s.buffer.length →
        exec (.frameArrival f) s = .next (State.latchChip
          { s with ring := { s.ring with discarded := min (s.ring.discarded + 1) 65535 } } .ringOverrun [byteAt f 0])) ∧
      (f.length < 3 ∨ 778 < f.length →
        exec (.frameArrival f) s = .next (State.latchChip
          { s with ring := { s.ring with discarded := min (s.ring.discarded + 1) 65535 } } .frameCrc [byteAt f 0, 2]))) ∧
    (∀ (f : Frame) (rest : List Frame) (s : State), InOperation s → s.phase = .sending → s.buffer = f :: rest →
        exec .frameDeparture s = .next { s with
          buffer := rest
          phase := .waiting
          cardViews := (s.cardViews.filter (fun v => decide (v.place ≠ 0))).map (fun v => { v with place := v.place - 1 })
          ringOut := some f }) ∧
      ∀ (f : Frame) (rest : List Frame) (s : State), InOperation s → s.phase = .waiting → s.buffer = f :: rest →
        let bad := fun (cause : Byte) => State.latchChip
          { s with ring := { s.ring with crcErrors := min (s.ring.crcErrors + 1) 65535 }, phase := .sending } .frameCrc
          [byteAt f 0, cause]
        let n := natAt f 1
        (crcGood f = false → exec .frameProcessing s = .next (bad 1)) ∧
        (crcGood f = true → byteAt f 0 = 0xC1 → 1 ≤ n ∧ n ≤ 48 ∧ f.length = 10 + 16 * n →
          (s.lastIndex = some (word16 f 2) → exec .frameProcessing s = .next { s with phase := .cycle }) ∧
          (s.lastIndex ≠ some (word16 f 2) →
            let forNode := fun (g : Frame) => crcGood g = true ∧ byteAt g 0 = 0x5A ∧ g.length = 58 ∧ natAt g 1 = s.nodeAddr.toNat
            let held := fun (i : Nat) (g : Frame) => i ≠ 0 ∧ s.buffer[i]? = some g ∧ forNode g ∧ natAt g 1 ≠ 63 ∧ natAt g 3 = 0x21 ∧
              ∀ v ∈ s.cardViews, v.place ≠ i
            ∃ new : List CardView, exec .frameProcessing s = .next { s with cardViews := s.cardViews ++ new, phase := .cycle } ∧
              (∀ i, (∃ v ∈ new, v.place = i) ↔ ∃ g, held i g) ∧
              ∀ v ∈ new, v = ⟨v.place, s.lastIndex, s.stations, Vector.ofFn (fun l => (s.lane l).web), s.gate⟩)) ∧
        (crcGood f = true → byteAt f 0 = 0xC1 → ¬ (1 ≤ n ∧ n ≤ 48 ∧ f.length = 10 + 16 * n) →
          exec .frameProcessing s = .next (bad 2)) ∧
        (crcGood f = true → byteAt f 0 = 0x5A → f.length = 58 → n = s.nodeAddr.toNat ∨ n = 63 →
          exec .frameProcessing s = .next { s with phase := .service }) ∧
        (crcGood f = true → byteAt f 0 = 0x5A → f.length = 58 → ¬ (n = s.nodeAddr.toNat ∨ n = 63) →
          exec .frameProcessing s = .next { s with phase := .sending }) ∧
        (crcGood f = true → byteAt f 0 = 0x5A → f.length ≠ 58 → exec .frameProcessing s = .next (bad 2)) ∧
        (crcGood f = true → byteAt f 0 ≠ 0xC1 → byteAt f 0 ≠ 0x5A →
          exec .frameProcessing s = .next { s with phase := .sending })

/-- R157, R161, R162: a reply overwrites the status byte and the data bytes, with zeros beyond the reply data; a broadcast frame's count
byte grows by 1, held at 255; every other byte before the CRC stays, and the CRC is good. R145, R153: the CRC runs over every byte before the
last two, from 0xFFFF with the polynomial 0x1021, each byte most significant bit first, and stands in the last two. R163: the codes of the
statuses. -/
def Obligations.ReplyAndCountFrames : Prop :=
  [Status.done, .scheduled, .refusedFormat, .refusedRange, .refusedState, .refusedInUse, .refusedBusy, .refusedDuplicate].map Status.code =
      [0x01, 0x02, 0x81, 0x82, 0x83, 0x84, 0x85, 0x86] ∧
  (∀ f : Frame,
    let bit := fun (c : Nat) => if 32768 ≤ c then (2 * c - 65536) ^^^ 0x1021 else 2 * c
    let body := f.take (f.length - 2)
    (crc16 body).toNat = body.foldl (fun c b => bit^[8] (c ^^^ (256 * b.toNat))) 0xFFFF ∧
    (crcGood f = true ↔ crc16 body = word16 f (f.length - 2)) ∧ withCrc f = body ++ bytes16 (crc16 body)) ∧
  (∀ (f : Frame) (status : Status) (data : List Byte), f.length = 58 →
      let g := replyFrame f status data
      g.length = 58 ∧ crcGood g = true ∧ byteAt g 5 = status.code ∧ (∀ i < 8, i ≠ 5 → byteAt g i = byteAt f i) ∧
        ∀ j < 48, byteAt g (8 + j) = data.getD j 0) ∧
    ∀ (f : Frame) (i : Nat), f.length = 58 → i = 6 ∨ i = 7 →
      let g := countFrame f i
      g.length = 58 ∧ crcGood g = true ∧ natAt g i = min (natAt f i + 1) 255 ∧ ∀ j < 56, j ≠ i → byteAt g j = byteAt f j

/-- R162: at broadcast a read request is counted refused and not executed; any other request does what it does under the node address,
and the frame carries a count in place of the reply: accepted for DONE and SCHEDULED, refused otherwise. -/
def Obligations.BroadcastExecutesAsAddressed : Prop :=
  (∀ r : Request, r.isRead = true ↔ r ∈ [Request.identify, .readState, .readSlotMap, .readStations, .readRecipe, .readCard,
    .readCounters, .readAlarms, .readZones]) ∧
  ∀ (c : Instr) (r : Request) (f : Frame) (rest : List Frame) (s : State), requestFor c = some r → HandsService s f rest r →
    f.length = 58 → byteAt f 1 = 63 →
      (r.isRead = true → exec c s = .next (countedRefused s f rest)) ∧
      (r.isRead = false → s.nodeAddr.toNat ≠ 63 → ∃ t g,
        exec c { s with buffer := patch f 1 [s.nodeAddr.zeroExtend 8] :: rest } = .next t ∧ t.buffer = g :: rest ∧
          exec c s = .next
            { t with buffer := countFrame f (if byteAt g 5 = 0x01 ∨ byteAt g 5 = 0x02 then 6 else 7) :: rest })

/-- R173, R177: an alarm whose latch is set stays as it is and changes nothing; one whose latch is clear takes its data, filled up with
zeros to five bytes, and makes the stop reason its code where it makes the stop request present. Nothing else changes. R172: the codes, by
which the alarms stand in their places. R177: the stop request is present while a latch with its stop-enable on is set. -/
def Obligations.LatchingAnAlarm : Prop :=
  (let lane : List LaneAlarm := [.stationLost, .zoneFault, .rejectUnconfirmed, .unexpectedReject, .changeoverFailed, .trackLost,
      .planMismatch]
    let chip : List ChipAlarm := [.ringOverrun, .frameCrc, .indexGap, .indexRepeat, .bankSwitchFailed, .planConflict]
    lane.map LaneAlarm.code = [1, 2, 3, 4, 5, 6, 7] ∧ chip.map ChipAlarm.code = [8, 9, 10, 11, 12, 13] ∧
      (∀ a : LaneAlarm, a.code = a.place.val + 1) ∧ ∀ a : ChipAlarm, a.code = a.place.val + 8) ∧
  (∀ s : State, s.stopPresent = true ↔
    (∃ l : Lane, ∃ i : Fin 7, (s.lane l).alarms[i].latch.isSome = true ∧ (s.lane l).alarms[i].stopEn = true) ∨
      ∃ i : Fin 6, s.chipAlarms[i].latch.isSome = true ∧ s.chipAlarms[i].stopEn = true) ∧
  (∀ (s : State) (l : Lane) (kind : LaneAlarm) (data : List Byte),
      let a := (s.lane l).alarms[kind.place]
      let t := s.latchLane l kind data
      (a.latch.isSome = true → t = s) ∧
      (a.latch = none →
        t.lane l = { s.lane l with alarms := (s.lane l).alarms.set kind.place { a with latch := some (padTo 5 data) } } ∧
          (∀ m, m ≠ l → t.lane m = s.lane m) ∧
          t.stopReason = (if s.stopPresent = false ∧ a.stopEn = true then kind.code else s.stopReason) ∧
          { t with lanes := s.lanes, stopReason := s.stopReason } = s)) ∧
    ∀ (s : State) (kind : ChipAlarm) (data : List Byte),
      let a := s.chipAlarms[kind.place]
      let t := s.latchChip kind data
      (a.latch.isSome = true → t = s) ∧
      (a.latch = none →
        t = { s with
          chipAlarms := s.chipAlarms.set kind.place { a with latch := some (padTo 5 data) }
          stopReason := if s.stopPresent = false ∧ a.stopEn = true then kind.code else s.stopReason })

/-! ## Index numbers, the Pitch Timer, the cycle frame -/

/-- R9, R11: index arithmetic modulo 65536. A frame's class follows its step distance from the last index, and an index is reached from
the frame that carries it to the 32767th after it. -/
def Obligations.ClassesAndReachedTest : Prop :=
  (∀ k : Index, classify none k = .first) ∧
    (∀ last k : Index, let d := indexDistance last k
      (d = 0 → classify (some last) k = .again) ∧ (d = 1 → classify (some last) k = .next) ∧
      (2 ≤ d ∧ d ≤ 8 → classify (some last) k = .gap) ∧ (9 ≤ d → classify (some last) k = .lost)) ∧
    (∀ x k : Index, reached x k = true ↔ indexDistance x k < 32768) ∧
    ∀ (x : Index) (n : Nat), n < 65536 → (reached x (x + BitVec.ofNat 16 n) = true ↔ n < 32768)

/-- R14: how an offered capture is folded into the pitch average, or refused as a stall. -/
def Obligations.PitchAverageFold : Prop :=
  ∀ (t : PitchTimer) (capture : Nat),
    (t.average = none → capture < 65535 →
      t.offer capture = { t with average := some (max capture 100), stall := false }) ∧
    (t.average = none → capture = 65535 → t.offer capture = { t with stall := true }) ∧
    ∀ p, t.average = some p → 100 ≤ p → p ≤ 65535 →
      (capture ≤ 4 * p → capture < 65535 →
        t.offer capture = { t with
          average := some (if p ≤ capture then p + (capture - p) / 4 else max 100 (p - (p - capture) / 4))
          stall := false }) ∧
      (4 * p < capture ∨ capture = 65535 → t.offer capture = { t with stall := true })

/-- R13, R15, R132, R143, R145, R149, R150, R152: a good cycle frame is worked on whole and stands at the head of the buffer ready to be
sent, of the same length and with a good CRC; its header and every slot that the Slot Map holds UNUSED or as a report stay as they
arrived, and so does every command slot in MONITOR. The last index becomes the frame's, or stays at a repeat; the pending role is taken.
The tables and the recipes stay. The Pitch Timer's count is 0 after it: a frame of step distance 1 offered the count as a capture, and one
of any other class cleared the stall flag and kept the average. That the status slot of a repeat shows the flag so cleared is the model's
choice (assumption 24). -/
def Obligations.CycleFrameCompletes : Prop :=
  (∀ f : Frame, slotCount f = natAt f 1 ∧ frameIndex f = word16 f 2 ∧
    ∀ i, slotBytes f i = (List.range (min 16 (f.length - (8 + 16 * i)))).map (fun j => byteAt f (8 + 16 * i + j))) ∧
  (∀ (f : Frame) (rest : List Frame) (gapOrder : List Lane) (ticks : List Tick) (s : State), HandsCycle s f rest →
      1 ≤ slotCount f → slotCount f ≤ 48 → f.length = 10 + 16 * slotCount f →
      ∃ t g, exec (.cycleFrame gapOrder ticks) s = .next t ∧ t.buffer = g :: rest ∧ t.phase = .sending ∧
        g.length = f.length ∧ crcGood g = true ∧ (∀ i < 8, byteAt g i = byteAt f i) ∧
        (∀ i : Fin 48, i < slotCount f → (∀ k l, s.slotMap[i] ≠ .command k l) → s.slotMap[i] ≠ .status →
          slotBytes g i = slotBytes f i) ∧
        (t.role = .monitor → ∀ i : Fin 48, i < slotCount f → s.slotMap[i] ≠ .status → slotBytes g i = slotBytes f i) ∧
        t.lastIndex = some (frameIndex f) ∧ t.role = s.pendingRole.getD s.role ∧ t.pendingRole = none ∧
        (t.power = s.power ∧ t.bypdrv = s.bypdrv ∧ t.nodeAddr = s.nodeAddr ∧ t.cardViews = s.cardViews ∧ t.ringOut = s.ringOut ∧
          t.slotMap = s.slotMap ∧
          t.stations = s.stations ∧ t.ring.discarded = s.ring.discarded ∧ t.ring.crcErrors = s.ring.crcErrors) ∧
        ∀ b n, (t.entry b n).recipe = (s.entry b n).recipe) ∧
    ∀ (f : Frame) (rest : List Frame) (gapOrder : List Lane) (ticks : List Tick) (s : State), HandsCycle s f rest →
      ∃ t, exec (.cycleFrame gapOrder ticks) s = .next t ∧ t.timer.count = 0 ∧
        (∀ last, s.lastIndex = some last → indexDistance last (frameIndex f) = 1 →
          t.timer.average = (s.timer.offer s.timer.count).average ∧ t.timer.stall = (s.timer.offer s.timer.count).stall) ∧
        ((∀ last, s.lastIndex = some last → indexDistance last (frameIndex f) ≠ 1) →
          t.timer.average = s.timer.average ∧ t.timer.stall = false)

/-- R132 to R140: what stands before the pitch steps of a frame of each class, and the first stage they take (R54); a repeat takes no stage.
R46, R54 to R56: a lane's pitch step is its stages from the first to stage 7, in order, with a ZONE_FAULT entry that is due after it; one tick
is the next stage of a lane, none once its step has ended, or the end of a conversion, for which a lane's step is in progress from its
first stage to its seventh. R150 to R152: after the steps the 48 Slot Map entries are handled in slot order, then the status slot, then the
CRC. R86, R150: before the steps of an accepted frame no lane has a command planned, whatever an earlier frame planned. The open orders of
R32 and R132 are the operands; that the stages they leave out are taken after them, lane by lane in lane order, is
the model's choice (assumption 18), as is that a conversion ends between stages, never inside one (assumption 25). That the status slot of a
repeat shows the stall flag the repeat has cleared is the model's choice too (assumption 24). -/
def Obligations.CycleFrameSequence : Prop :=
  (∀ s : State, { s.clearPlans with lanes := s.lanes } = s ∧
    ∀ l : Lane, s.clearPlans.lane l = { s.lane l with plan := ⟨none, none, none, none, none, none⟩ }) ∧
  (∀ (f : Frame) (rest : List Frame) (gapOrder : List Lane) (ticks : List Tick) (s : State), HandsCycle s f rest →
      let k := frameIndex f
      let s0 : State := { s with
        timer := s.timer.frame (classify s.lastIndex k), role := s.pendingRole.getD s.role, pendingRole := none }
      let accepted := fun (u : State) => ({ u with lastIndex := some k }.decideSwitch k).clearPlans
      let done := fun (isRepeat : Bool) (u : State) =>
        let w := finishCycle isRepeat f u
        ({ w.state with buffer := w.frame :: rest, phase := .sending } : State)
      (s.lastIndex = none →
        exec (.cycleFrame gapOrder ticks) s = .next (done false (runPitchSteps ⟨f, k, false, 1⟩ ticks (accepted s0)))) ∧
      ∀ last, s.lastIndex = some last →
        let d := indexDistance last k
        (d = 0 → exec (.cycleFrame gapOrder ticks) s =
          .next (done true (runPitchSteps ⟨f, k, false, 8⟩ ticks (s0.latchChip .indexRepeat (bytes16 k))))) ∧
        (d = 1 →
          exec (.cycleFrame gapOrder ticks) s = .next (done false (runPitchSteps ⟨f, k, true, 1⟩ ticks (accepted s0)))) ∧
        (2 ≤ d ∧ d ≤ 8 → exec (.cycleFrame gapOrder ticks) s =
          .next (done false (runPitchSteps ⟨f, k, false, 3⟩ ticks (accepted (gapHandling last k gapOrder s0))))) ∧
        (9 ≤ d → exec (.cycleFrame gapOrder ticks) s =
          .next (done false (runPitchSteps ⟨f, k, false, 4⟩ ticks (accepted (lostTrack last k s0)))))) ∧
    (∀ (x : StepCtx) (s : State), 1 ≤ x.firstStage →
      let stage := fun (n : Nat) (l : Lane) (u : State) =>
        match n with
        | 1 => stage1 x.frame x.index x.applies l u
        | 2 => stage2 x.index l u
        | 3 => stage3 x.index l u
        | 4 => stage4 x.index l u
        | 5 => stage5 x.index l u
        | 6 => stage6 x.index l u
        | 7 => (stage7 l u).faultAfterStep l
        | _ => u
      let stages := fun (first : Nat) (l : Lane) (u : State) =>
        ([1, 2, 3, 4, 5, 6, 7].filter (fun n => decide (first ≤ n))).foldl (fun v n => stage n l v) u
      let begun : Steps := ⟨s, Vector.replicate 6 x.firstStage⟩
      runPitchSteps x [] s = (List.finRange 6).foldl (fun u l => stages x.firstStage l u) s ∧
      (∀ ticks : List Tick,
        let p := ticks.foldl (Steps.tick x) begun
        runPitchSteps x ticks s = (List.finRange 6).foldl (fun u l => stages p.next[l] l u) p.state) ∧
      ∀ p : Steps,
        (∀ l, p.next[l] ≤ 7 → p.tick x (.stage l) = ⟨stage p.next[l] l p.state, p.next.set l (p.next[l] + 1)⟩) ∧
        (∀ l, 7 < p.next[l] → p.tick x (.stage l) = p) ∧
        ∀ raw, p.tick x (.conversion raw) =
          ⟨p.state.convert raw (fun l => decide (x.firstStage < p.next[l] ∧ p.next[l] ≤ 7)), p.next⟩) ∧
    ∀ (isRepeat : Bool) (f : Frame) (s : State),
      let w := writeStatus ((List.finRange 48).foldl (fun v i => commandSlot isRepeat v (s.slotMap[i], i.val)) ⟨s, f⟩)
      finishCycle isRepeat f s = ⟨w.state, withCrc w.frame⟩

/-! ## Platen zones -/

/-- R107 to R111: the end of a conversion changes the items of its own zone alone, by the zone's state and the raw code, and the next
conversion in the rotation begins with its zone's offset and hold limit as they stand. -/
def Obligations.ConversionMovesItsZone : Prop :=
  ∀ (raw : RawCode) (s : State), s.power = .running → ZonesSound s →
    let l := s.conv.zone
    let z := s.zone l
    ∃ t, exec (.conversionEnd raw) s = .next t ∧ (∀ m, m ≠ l → t.zone m = s.zone m) ∧
      t.conv = ⟨l + 1, (s.zone (l + 1)).offset, (s.zone (l + 1)).limit⟩ ∧
      { t with lanes := s.lanes, stopReason := s.stopReason, zones := s.zones, conv := s.conv } = s ∧
      (t.zone l).offset = z.offset ∧ (t.zone l).limit = z.limit ∧
      (raw.toNat = 0 ∨ raw.toNat = 1023 →
        (t.zone l).history = z.history ∧ (t.zone l).z = z.z ∧ (t.zone l).streak = min (z.streak + 1) 255 ∧
          (t.zone l).state =
            (if z.state = .fault ∨ s.conv.limit ≤ min (z.streak + 1) 255 then .fault
             else if z.state = .warming then .warming else .holding)) ∧
      (0 < raw.toNat → raw.toNat < 1023 →
        let code := (max 0 (min 1023 ((raw.toNat : Int) + s.conv.offset))).toNat
        let h := if z.state = .fault then [code] else (z.history ++ [code]).drop (z.history.length - 3)
        (t.zone l).history = h ∧ (t.zone l).z = (if h.length = 4 then h.sum * 3 / 4 else z.z) ∧ (t.zone l).streak = 0 ∧
          (t.zone l).state = if h.length = 4 then .ready else .warming)

/-- R45, R46, R115: a zone that a conversion takes into FAULT latches ZONE_FAULT, with the zone's Z and streak, for a lane that is not
IDLE, and a lane in RUN or DRAIN enters FAULT, dropping its pending changeover and keeping the rest; in every other case the lanes stay
as they are. While the lane's pitch step is in progress the alarm is latched alike, and the entry of a lane in RUN or DRAIN is left due to
the end of the step. ZONE_FAULT_ENTRY_AFTER_STEP takes the entry where one is due and leaves every other lane alone (assumption 6). -/
def Obligations.ZoneFaultTakesLane : Prop :=
  (∀ (raw : RawCode) (s : State), s.power = .running →
      let l := s.conv.zone
      ∃ t, exec (.conversionEnd raw) s = .next t ∧ (∀ m, m ≠ l → t.lane m = s.lane m) ∧
        ((s.zone l).state ≠ .fault ∧ (t.zone l).state = .fault ∧ (s.lane l).state ≠ .idle →
          t.lane l = { s.lane l with
            state := .fault
            changeover := if (s.lane l).state = .fault then (s.lane l).changeover else none
            alarms := latchedLane (s.lane l) .zoneFault (nat16 (t.zone l).z ++ [byteOf (t.zone l).streak]) }) ∧
        (¬ ((s.zone l).state ≠ .fault ∧ (t.zone l).state = .fault ∧ (s.lane l).state ≠ .idle) →
          t.lanes = s.lanes ∧ t.stopReason = s.stopReason)) ∧
    (∀ (raw : RawCode) (inStep : Lane → Bool) (s : State),
      let l := s.conv.zone
      let between := s.convert raw (fun _ => false)
      let t := s.convert raw inStep
      (inStep l = false → t = between) ∧
      (inStep l = true → { t with lanes := s.lanes } = { between with lanes := s.lanes } ∧
        (∀ m, m ≠ l → t.lane m = s.lane m) ∧
        (¬ ((s.zone l).state ≠ .fault ∧ (t.zone l).state = .fault ∧ (s.lane l).state ≠ .idle) → t.lanes = s.lanes) ∧
        ((s.zone l).state ≠ .fault ∧ (t.zone l).state = .fault ∧ (s.lane l).state ≠ .idle →
          t.lane l = { s.lane l with
            faultDue := decide ((s.lane l).state = .run ∨ (s.lane l).state = .drain)
            alarms := latchedLane (s.lane l) .zoneFault (nat16 (t.zone l).z ++ [byteOf (t.zone l).streak]) }))) ∧
    ∀ (l : Lane) (s : State), s.power = .running →
      ((s.lane l).faultDue = true → (s.lane l).state = .run ∨ (s.lane l).state = .drain →
        exec (.zoneFaultEntryAfterStep l) s =
          .next (s.setLane l { s.lane l with state := .fault, changeover := none, faultDue := false })) ∧
      ((s.lane l).faultDue = true → (s.lane l).state = .idle ∨ (s.lane l).state = .fault →
        exec (.zoneFaultEntryAfterStep l) s = .next (s.setLane l { s.lane l with faultDue := false })) ∧
      ((s.lane l).faultDue = false → exec (.zoneFaultEntryAfterStep l) s = .next s)

/-! ## Seal dose -/

/-- R93 to R101: the commanded dwell and the outcome of a seal calculation, for every recipe in range: a stroke's dwell lies within the
recipe's limits and the window, and each outcome says how the dwell stands to the heat dose and the tolerances. The eight segments of a
stroke sum to its dwell and differ by at most 1 ms; each pressure is the base pressure scaled by its offset and rounded half up, then
clamped into the Station Map's limits, with no wrap in 9 bits. -/
def Obligations.SealCalculation : Prop :=
  (∀ (r : Recipe) (m : StationMap) (pitch : Nat) (zs : ZoneState) (z : Nat), r.inRange = true →
      let e : Int := (z : Int) - 10 * (r.ta : Int)
      let w : Int := ((pitch * m.dwellFraction / 2560 : Nat) : Int) - (m.motion : Int)
      let usable := zs = .ready ∨ zs = .holding
      let d := (sealDwell r m pitch zs z).1
      let o := (sealDwell r m pitch zs z).2
      let a := d * e.toNat / 10
      let longest : Int := min (r.dMax : Int) w
      (o = .noHeat ↔ ¬ usable ∨ e < (r.eMin : Int)) ∧
      (o = .noWindow ↔ usable ∧ (r.eMin : Int) ≤ e ∧ w < (r.dMin : Int)) ∧
      (o = .noHeat ∨ o = .noWindow → d = 0) ∧
      (o ≠ .noHeat ∧ o ≠ .noWindow → r.dMin ≤ d ∧ (d : Int) ≤ longest ∧ 20 ≤ d ∧ d ≤ 3000) ∧
      (o = .ok → 10 * r.heatDose ≤ d * e.toNat ∧ (d - 1) * e.toNat < 10 * r.heatDose) ∧
      (o = .clampedLow → d = r.dMin ∧ 10 * r.heatDose ≤ (d - 1) * e.toNat ∧ a * 256 ≤ r.heatDose * (256 + r.tolO)) ∧
      (o = .overdose → d = r.dMin ∧ 10 * r.heatDose ≤ (d - 1) * e.toNat ∧ r.heatDose * (256 + r.tolO) < a * 256) ∧
      (o = .clampedHigh → (d : Int) = longest ∧ d * e.toNat < 10 * r.heatDose ∧ r.heatDose * (256 - r.tolU) ≤ a * 256) ∧
      (o = .underdose → (d : Int) = longest ∧ d * e.toNat < 10 * r.heatDose ∧ a * 256 < r.heatDose * (256 - r.tolU))) ∧
    (∀ d : Nat, ((List.range 8).map (segmentDuration d)).sum = d ∧
        ∀ i < 8, segmentDuration d i = d / 8 ∨ segmentDuration d i = d / 8 + 1) ∧
      ∀ (m : StationMap) (pb : Nat) (o : Int), m.pMin ≤ m.pMax → 12 ≤ pb → pb ≤ 225 → -63 ≤ o → o ≤ 63 →
        ∃ p : Nat, 128 * (p : Int) ≤ (pb : Int) * (128 + o) + 64 ∧ (pb : Int) * (128 + o) + 64 < 128 * (p + 1) ∧ 6 ≤ p ∧
          p ≤ 336 ∧ segmentPressure m pb o = max m.pMin (min m.pMax p)

/-! ## The Tracking Store -/

/-- R21, R24, R27, R29, R30, R31, R62: at stage 5 a lane in RUN takes the record at the head of the free list for a new card at the tail of
its web list, with the next serial and a reference to its assigned entry in the active bank; the reference count and the formed counter
rise by 1. A lane in another state creates none. Freeing a record appends its number at the tail and lowers the count of its entry.
Adding a reason keeps every member and the first reason, and adds at most that reason, once. R23, R26: a lane's gate entries stand in the
order of the gate list, and the records off the free list are the gate list's and the six web lists'. -/
def Obligations.CardRecordOperations : Prop :=
  (∀ (l : Lane) (s : State), s.gateOf l = s.gate.filter (fun c => decide (c.lane = l)) ∧
    s.inUse = s.gate ++ [0, 1, 2, 3, 4, 5].flatMap (fun m : Lane => (s.lane m).web)) ∧
  ((∀ (k : Index) (l : Lane) (s : State) (n : RecordNo) (rest : List RecordNo), (s.lane l).state = .run → s.free = n :: rest →
        let t := stage5 k l s
        let a := (s.lane l).assigned
        (t.lane l).web = (s.lane l).web ++
            [{ record := n, serial := s.serial, lane := l, formed := k, bank := s.active, entry := a,
               sku := (s.entry s.active a).fields.sku, commanded := ⟨false, false, false, false⟩, loadResult := none,
               inspection := none, placed := none, sealRec := none, reasons := [], gateIndex := none }] ∧
          t.free = rest ∧ t.serial = s.serial + 1 ∧
          (∀ i : Fin 21, (t.lane l).counters[i] = (s.lane l).counters[i] + if i = 0 then 1 else 0) ∧
          { t.lane l with web := (s.lane l).web, counters := (s.lane l).counters } = s.lane l ∧
          (∀ m, m ≠ l → t.lane m = s.lane m) ∧
          (∀ b e, t.entry b e = { s.entry b e with
            refs := (s.entry b e).refs + if b = s.active ∧ e = a then 1 else 0 }) ∧
          { t with lanes := s.lanes, free := s.free, serial := s.serial, bankA := s.bankA, bankB := s.bankB } = s) ∧
      (∀ (k : Index) (l : Lane) (s : State), (s.lane l).state ≠ .run → stage5 k l s = s) ∧
      ∀ (c : Card) (s : State),
        let t := s.freeRecord c
        t.free = s.free ++ [c.record] ∧
          (∀ b e, t.entry b e = { s.entry b e with
            refs := (s.entry b e).refs - if b = c.bank ∧ e = c.entry then 1 else 0 }) ∧
          { t with free := s.free, bankA := s.bankA, bankB := s.bankB } = s) ∧
    ∀ (c : Card) (r : Reason),
      c.firstReason = c.reasons.head? ∧ (c.addReason r).firstReason = some (c.firstReason.getD r) ∧
        (∀ x, x ∈ (c.addReason r).reasons ↔ x ∈ c.reasons ∨ x = r) ∧
        (c.reasons.Nodup → (c.addReason r).reasons.Nodup) ∧ { c.addReason r with reasons := c.reasons } = c

/-! ## Reports -/

/-- R75, R76, R81, R82, R84: the expected card is the one formed at k - 1 - s with the kind in its commanded set. A due report with the
kind's tag and the card's serial is accepted; any other is silent, adds its reason and raises the silence counter, held at 15. A report
that is not due changes nothing; nor does any report change another card, lane or counter. R74, R149, R153: the report slot of a kind and
lane is the slot that the Slot Map gives it; unmapped, or beyond the frame's slot count, it reads as NONE. -/
def Obligations.DueReportOutcome : Prop :=
  [Kind.load, Kind.inspect, Kind.card, Kind.sealing, Kind.gate].map Kind.reportTag =
      [some 0x20, some 0x21, some 0x22, some 0x23, some 0x24] ∧
  (∀ c : Commanded, [Kind.load, .inspect, .card, .sealing].map c.has = [c.load, c.inspect, c.card, c.sealing]) ∧
  (∀ (q : Silence) (next : Nat → Nat), q.upd .load next = { q with load := next q.load } ∧
    q.upd .inspect next = { q with inspect := next q.inspect } ∧ q.upd .card next = { q with card := next q.card } ∧
    q.upd .sealing next = { q with sealing := next q.sealing }) ∧
  (∀ (f : Frame) (l : Lane) (kind : Kind) (s : State),
    ((∀ i : Fin 48, s.slotMap[i] ≠ .report kind l) → byteAt (s.reportSlot f kind l) 0 = 0x00) ∧
    ∀ i : Fin 48, s.slotMap[i] = .report kind l → (∀ j : Fin 48, j < i → s.slotMap[j] ≠ .report kind l) →
      (i < slotCount f → s.reportSlot f kind l = (f.drop (8 + 16 * i.val)).take 16) ∧
      (slotCount f ≤ i → byteAt (s.reportSlot f kind l) 0 = 0x00)) ∧
  ∀ (f : Frame) (k : Index) (l : Lane) (kind : Kind) (s : State), kind ≠ .gate → kind ≠ .stack →
    ((∀ c ∈ (s.lane l).web, ¬ (c.formed = k - 1 - BitVec.ofNat 16 (s.map.offset kind) ∧ c.commanded.has kind = true)) →
      s.applyReport f l k kind = s) ∧
    ∀ before after c, (s.lane l).web = before ++ c :: after → (∀ x ∈ before ++ after, x.formed ≠ c.formed) →
      c.formed = k - 1 - BitVec.ofNat 16 (s.map.offset kind) → c.commanded.has kind = true →
      let slot := s.reportSlot f kind l
      let payload := slotPayload slot
      let accepted := some (slotTag slot) = kind.reportTag ∧ word24 payload 0 = c.serial
      let t := s.applyReport f l k kind
      (accepted → (t.lane l).web = before ++ c.accept kind (s.recipeOf c) payload :: after ∧
        (t.lane l).silence = (s.lane l).silence.upd kind
          (fun n => if kind = .sealing ∧ byteAt payload 3 ≠ 0x01 then min (n + 1) 15 else 0)) ∧
      (¬ accepted →
        (t.lane l).web =
          before ++ c.addReason (if kind = .sealing then .sealUnconfirmed else .stationSilent) :: after ∧
        (t.lane l).silence = (s.lane l).silence.upd kind (fun n => min (n + 1) 15)) ∧
      { t.lane l with web := (s.lane l).web, silence := (s.lane l).silence } = s.lane l ∧
      (∀ m, m ≠ l → t.lane m = s.lane m) ∧ { t with lanes := s.lanes } = s

/-- R78, R79, R80, R103, R104: what an accepted report writes into the card, and exactly when it adds LOAD_SHORT, LOAD_OVER, INSPECT_FAIL,
WEIGHT_OUT, NO_CARD, SEAL_UNCONFIRMED and SEAL_UNDERDOSE, the last from the dose of the achieved dwell at the stored excess. R21: the reasons
that are new join behind those the card has, LOAD_SHORT before LOAD_OVER and INSPECT_FAIL before WEIGHT_OUT. -/
def Obligations.ReportChecks : Prop :=
  let adds := fun (before after order : List Reason) =>
    ∃ new, after = before ++ new ∧ new.Sublist order ∧ ∀ x ∈ new, x ∉ before
  (∀ (r : Recipe) (payload : List Byte) (c : Card), r.inRange = true →
      let count := fun (j : Nat) => if j % 2 = 0 then natAt payload (3 + j / 2) / 16 else natAt payload (3 + j / 2) % 16
      let loaded := c.accept .load r payload
      let inspected := c.accept .inspect r payload
      let placed := c.accept .card r payload
      let weight := nat16At payload 4
      (loaded.loadResult = some ((List.range r.cavities).map count) ∧
        (∀ x, x ∈ loaded.reasons ↔ x ∈ c.reasons ∨
          x = .loadShort ∧ (∃ j < r.cavities, count j < r.expected.getD j 0) ∨
          x = .loadOver ∧ ∃ j < r.cavities, r.expected.getD j 0 < count j) ∧
        adds c.reasons loaded.reasons [.loadShort, .loadOver] ∧
        { loaded with loadResult := c.loadResult, reasons := c.reasons } = c) ∧
      (inspected.inspection = some
          ⟨(List.range r.cavities).map (fun j => (byteAt payload 3).getLsbD (7 - j)),
            if weight = 65535 then none else some weight⟩ ∧
        (∀ x, x ∈ inspected.reasons ↔ x ∈ c.reasons ∨
          x = .inspectFail ∧ (∃ j < r.cavities, (byteAt payload 3).getLsbD (7 - j) = true) ∨
          x = .weightOut ∧ ¬ (r.wMin = 0 ∧ r.wMax = 0) ∧ (weight = 65535 ∨ weight < r.wMin ∨ r.wMax < weight)) ∧
        adds c.reasons inspected.reasons [.inspectFail, .weightOut] ∧
        { inspected with inspection := c.inspection, reasons := c.reasons } = c) ∧
      (placed.placed = some (decide (byteAt payload 3 = 0x01)) ∧
        (∀ x, x ∈ placed.reasons ↔ x ∈ c.reasons ∨ x = .noCard ∧ byteAt payload 3 ≠ 0x01) ∧
        adds c.reasons placed.reasons [.noCard] ∧
        { placed with placed := c.placed, reasons := c.reasons } = c)) ∧
    ∀ (r : Recipe) (payload : List Byte) (c : Card) (sr : SealRecord), c.sealRec = some sr →
      let t := c.accept .sealing r payload
      let contact := byteAt payload 3 = 0x01
      let pressureOk := byteAt payload 4 = 0x01
      let achieved := nat16At payload 5
      let dose := achieved * sr.excess.toNat / 10
      t.sealRec = some { sr with achieved := some achieved, contact := some (decide contact) } ∧
        (∀ x, x ∈ t.reasons ↔ x ∈ c.reasons ∨ x = .sealUnconfirmed ∧ ¬ (contact ∧ pressureOk) ∨
          x = .sealUnderdose ∧ contact ∧ pressureOk ∧ dose * 256 < r.heatDose * (256 - r.tolU)) ∧
        adds c.reasons t.reasons [.sealUnconfirmed, .sealUnderdose] ∧
        { t with sealRec := c.sealRec, reasons := c.reasons } = c

/-- R26, R27, R83, R121, R122: the gate's count confirms that many of the lane's oldest gate entries, counting each as rejected under its
first reason and freeing it, oldest first; the excess is added to the unexpected-rejects counter and latches UNEXPECTED_REJECT unless
the blind-answer flag is set. Other lanes are left alone. The count handed is the one in the lane's gate report slot where that holds a
GATE_RPT, and 0 where it holds anything else, is not mapped or lies beyond the frame's slot count. R130: counters 3 to 15 belong to the
thirteen reasons, in code order. -/
def Obligations.GateCountConfirms : Prop :=
  [Reason.loadShort, .loadOver, .inspectFail, .weightOut, .noCard, .stationSilent, .sealNoHeat, .sealUnderdose, .sealOverdose,
    .sealUnconfirmed, .forced, .lanePurge, .indexGap].map Reason.counter = [3, 4, 5, 6, 7, 8, 9, 10, 11, 12, 13, 14, 15] ∧
  (∀ (f : Frame) (l : Lane) (s : State),
    let mapped := fun (i : Fin 48) => s.slotMap[i] = .report .gate l ∧ ∀ j : Fin 48, j < i → s.slotMap[j] ≠ .report .gate l
    (∀ i, mapped i → i < slotCount f → byteAt f (8 + 16 * i.val) = 0x24 → s.rejectsSeen f l = natAt ((f.drop (8 + 16 * i.val)).take 16) 2) ∧
    (∀ i, mapped i → i < slotCount f → byteAt f (8 + 16 * i.val) ≠ 0x24 → s.rejectsSeen f l = 0) ∧
    (∀ i, mapped i → slotCount f ≤ i → s.rejectsSeen f l = 0) ∧
    ((∀ i : Fin 48, s.slotMap[i] ≠ .report .gate l) → s.rejectsSeen f l = 0)) ∧
  ∀ (l : Lane) (k : Index) (n : Nat) (s : State),
    let es := s.gateOf l
    let out := es.take n
    let t := s.applyGateCount l k n
    t.gateOf l = es.drop n ∧ (∀ m, m ≠ l → t.gateOf m = s.gateOf m ∧ t.lane m = s.lane m) ∧
      t.free = s.free ++ out.map Card.record ∧
      (∀ b e, t.entry b e = { s.entry b e with
        refs := (s.entry b e).refs - out.countP (fun c => c.bank = b ∧ c.entry = e) }) ∧
      (t.lane l).counters[2] = (s.lane l).counters[2] + BitVec.ofNat 32 out.length ∧
      (∀ r : Reason, (t.lane l).counters[r.counter] =
        (s.lane l).counters[r.counter] + BitVec.ofNat 32 (firstReasons out r)) ∧
      (t.lane l).counters[19] = (s.lane l).counters[19] + BitVec.ofNat 32 (n - es.length) ∧
      (∀ i ∈ ([0, 1, 16, 17, 18, 20] : List (Fin 21)), (t.lane l).counters[i] = (s.lane l).counters[i]) ∧
      (t.lane l).alarms = (if es.length < n ∧ (s.lane l).blindAnswer = false
        then latchedLane (s.lane l) .unexpectedReject (byteOf (min (n - es.length) 255) :: bytes16 k)
        else (s.lane l).alarms) ∧
      { t.lane l with counters := (s.lane l).counters, alarms := (s.lane l).alarms } = s.lane l

/-- R26, R123: stage 2 expires the entries of a lane not IDLE whose gate index + g is reached, in list order, counting each as rejected
under its first reason and as gate unconfirmed, and latches REJECT_UNCONFIRMED with the first of them. -/
def Obligations.GateEntriesExpire : Prop :=
  ∀ (k : Index) (l : Lane) (s : State), ((s.lane l).state = .idle → stage2 k l s = s) ∧
    ((s.lane l).state ≠ .idle → (∀ c ∈ s.gate, c.gateIndex.isSome = true) →
      let due := fun (c : Card) => decide (c.lane = l) && reached (c.gateIndex.getD 0 + BitVec.ofNat 16 s.map.g) k
      let out := s.gate.filter due
      let t := stage2 k l s
      t.gate = s.gate.filter (fun c => !due c) ∧ t.free = s.free ++ out.map Card.record ∧
        (∀ m, m ≠ l → t.lane m = s.lane m) ∧
        (∀ i ∈ ([2, 17] : List (Fin 21)), (t.lane l).counters[i] = (s.lane l).counters[i] + BitVec.ofNat 32 out.length) ∧
        (∀ r : Reason, (t.lane l).counters[r.counter] =
          (s.lane l).counters[r.counter] + BitVec.ofNat 32 (firstReasons out r)) ∧
        (∀ i ∈ ([0, 1, 16, 18, 19, 20] : List (Fin 21)), (t.lane l).counters[i] = (s.lane l).counters[i]) ∧
        (out = [] → t = s) ∧
        (∀ c cs, out = c :: cs → (t.lane l).alarms =
          latchedLane (s.lane l) .rejectUnconfirmed (bytes24 c.serial ++ bytes16 (c.gateIndex.getD 0))) ∧
        { t.lane l with counters := (s.lane l).counters, alarms := (s.lane l).alarms } = s.lane l)

/-- R45, R53, R85: STATION_LOST is active while a silence counter stands at or above the limit; when it becomes active it is latched with
the kinds at the limit, and a lane in RUN or DRAIN with its auto-purge flag set enters FAULT. R55, R74, R83: stage 1 ends with it; before it
the lane's four reports and then its gate's count are applied, in a frame that applies reports; a lane in IDLE reads nothing and is not
evaluated. -/
def Obligations.StationLostEvaluation : Prop :=
  (∀ (f : Frame) (k : Index) (l : Lane) (s : State),
    let report := fun (kind : Kind) (u : State) => u.applyReport f l k kind
    let reported := report .sealing (report .card (report .inspect (report .load s)))
    (∀ applies, (s.lane l).state = .idle → stage1 f k applies l s = s) ∧
    ((s.lane l).state ≠ .idle → stage1 f k false l s = s.evalStationLost l) ∧
    ((s.lane l).state ≠ .idle →
      stage1 f k true l s = (reported.applyGateCount l k (s.rejectsSeen f l)).evalStationLost l)) ∧
  ∀ (l : Lane) (s : State),
    let r := s.lane l
    let n := s.map.silenceLimit
    let t := s.evalStationLost l
    let active := n ≤ r.silence.load ∨ n ≤ r.silence.inspect ∨ n ≤ r.silence.card ∨ n ≤ r.silence.sealing
    let kinds := (if n ≤ r.silence.load then 1 else 0) + (if n ≤ r.silence.inspect then 2 else 0) +
      (if n ≤ r.silence.card then 4 else 0) + if n ≤ r.silence.sealing then 8 else 0
    (∀ m, m ≠ l → t.lane m = s.lane m) ∧ { t with lanes := s.lanes, stopReason := s.stopReason } = s ∧
      ((t.lane l).stationLost = true ↔ active) ∧
      (¬ active ∨ r.stationLost = true → { t.lane l with stationLost := r.stationLost } = r ∧ t.stopReason = s.stopReason) ∧
      (active → r.stationLost = false →
        (t.lane l).alarms = latchedLane r .stationLost [byteOf kinds] ∧
          { t.lane l with alarms := r.alarms, stationLost := r.stationLost } =
            (if r.autoPurge = true ∧ (r.state = .run ∨ r.state = .drain) then { r with state := .fault, changeover := none }
             else r))

/-! ## Stages 2 to 7 of the pitch step -/

/-- R47, R51: stage 3 adds LANE_PURGE to every web card of a lane in FAULT; in RUN or DRAIN it takes a pending changeover whose index is
reached, in the active bank, or drops it with CHANGEOVER_FAILED where its entry is EMPTY there. R38: each lane has a record of its own. -/
def Obligations.StageThree : Prop :=
  (∀ (l : Lane) (r : LaneRec) (s : State), (s.setLane l r).lane l = r ∧ (∀ m, m ≠ l → (s.setLane l r).lane m = s.lane m) ∧
    { s.setLane l r with lanes := s.lanes } = s) ∧
  ∀ (k : Index) (l : Lane) (s : State),
    let r := s.lane l
    let t := stage3 k l s
    (r.state = .fault → t = s.setLane l { r with web := r.web.map (Card.addReason .lanePurge) }) ∧
    (r.state = .idle → t = s) ∧
    (r.state = .run ∨ r.state = .drain →
      (r.changeover = none → t = s) ∧
      ∀ ch, r.changeover = some ch →
        (32768 ≤ indexDistance ch.index k → t = s) ∧
        (indexDistance ch.index k < 32768 → (s.entry s.active ch.entry).recipe.isSome = true →
          t = s.setLane l { r with assigned := ch.entry, changeover := none }) ∧
        (indexDistance ch.index k < 32768 → (s.entry s.active ch.entry).recipe = none →
          t.lane l = { r with
              changeover := none
              alarms := latchedLane r .changeoverFailed (BitVec.ofNat 8 ch.entry.val :: bytes16 ch.index) } ∧
            (∀ m, m ≠ l → t.lane m = s.lane m) ∧ { t with lanes := s.lanes, stopReason := s.stopReason } = s))

/-- R26, R117 to R120: the punch decision. A blind window commands REJECT with serial 0 and counts down; a blank position gets no
command; a card at e with a reason, or under the force flag, joins the gate list with gate index k, with FORCED added where the flag is
set; any other card at e is passed, counted and freed. R48, R128: stage 4 is the punch decision with the lane's STACK_CMD planned, for a lane
that is not IDLE or holds a run-end event: the held event first, which is then cleared, and the decision's events behind it. That it is
so at a frame of lost track too, where R140 plans the STACK_CMD of a lane in FAULT with no event, is the model's choice (assumption 22). -/
def Obligations.PunchDecision : Prop :=
  ∀ (k : Index) (l : Lane) (s : State),
    let r := s.lane l
    let t := (s.punch k l).1
    let gate := fun (q : LaneRec) (reject : Bool) (serial : Serial) (why : Option Reason) =>
      { q with plan := { q.plan with gate := some (.gate reject serial why) } }
    (stage4 k l s = t.setLane l { t.lane l with
      held := none
      plan := { (t.lane l).plan with
        stack := if r.state = .idle ∧ r.held = none then none
          else some (.stack ((match r.held with | some e => [e] | none => []) ++ (s.punch k l).2)) } }) ∧
    (0 < r.blind → s.punch k l =
      (s.setLane l (gate { r with blind := r.blind - 1, blindAnswer := true } true 0 none), [])) ∧
    (r.blind = 0 → (∀ c ∈ r.web.head?, indexDistance c.formed k ≠ s.map.e) →
      s.punch k l = (s.setLane l { r with blindAnswer := false }, [])) ∧
    ∀ c rest, r.blind = 0 → r.web = c :: rest → indexDistance c.formed k = s.map.e →
      (c.reasons ≠ [] ∨ r.force = true →
        let d := if r.force = true then c.addReason .forced else c
        s.punch k l =
          ({ s.setLane l (gate { r with web := rest, blindAnswer := false } true c.serial d.firstReason) with
            gate := s.gate ++ [{ d with gateIndex := some k }] }, [])) ∧
      (c.reasons = [] → r.force = false →
        (s.punch k l).2 = (r.passEvents c (s.recipeOf c)).2 ∧
          t.free = s.free ++ [c.record] ∧ t.gate = s.gate ∧ (∀ m, m ≠ l → t.lane m = s.lane m) ∧
          t.lane l = gate { (r.passEvents c (s.recipeOf c)).1 with
            web := rest
            blindAnswer := false
            counters := (r.passEvents c (s.recipeOf c)).1.counters.set 1 (r.counters[1] + 1) } false c.serial none ∧
          (∀ b e, t.entry b e = { s.entry b e with
            refs := (s.entry b e).refs - if b = c.bank ∧ e = c.entry then 1 else 0 }))

/-- R125, R126: the stacker events of a passed card, with the batch numbers, the counts and the batches-closed counter. -/
def Obligations.BatchEvents : Prop :=
  ∀ (c : Card) (recipe : Recipe) (r : LaneRec), 1 ≤ recipe.batchSize →
    let t := (r.passEvents c recipe).1
    let events := (r.passEvents c recipe).2
    let opened := r.lastBatch + 1
    let size := recipe.batchSize
    let fresh : Option Batch := if size = 1 then none else some ⟨c.sku, size, recipe.closeMode, opened, 1⟩
    let first : List StackEvent :=
      ⟨.add, opened, 1⟩ :: if size = 1 then [⟨.closeFull, opened, 1⟩] else []
    let closed := fun (n : Nat) => ∀ i : Fin 21, t.counters[i] = r.counters[i] + if i = 20 then BitVec.ofNat 32 n else 0
    (r.openBatch = none → t.openBatch = fresh ∧ t.lastBatch = opened ∧ events = first ∧ closed (if size = 1 then 1 else 0)) ∧
    (∀ b, r.openBatch = some b → b.sku ≠ c.sku →
      t.openBatch = fresh ∧ t.lastBatch = opened ∧ events = ⟨.closeChangeover, b.number, b.count⟩ :: first ∧
        closed (if size = 1 then 2 else 1)) ∧
    (∀ b, r.openBatch = some b → b.sku = c.sku → b.count + 1 ≠ b.size →
      t.openBatch = some { b with count := b.count + 1 } ∧ t.lastBatch = r.lastBatch ∧
        events = [⟨.add, b.number, b.count + 1⟩] ∧ closed 0) ∧
    (∀ b, r.openBatch = some b → b.sku = c.sku → b.count + 1 = b.size →
      t.openBatch = none ∧ t.lastBatch = r.lastBatch ∧
        events = [⟨.add, b.number, b.size⟩, ⟨.closeFull, b.number, b.size⟩] ∧ closed 1) ∧
    { t with openBatch := r.openBatch, lastBatch := r.lastBatch, counters := r.counters } = r

/-- R43, R127, R128: stage 7 takes a lane in DRAIN with no card and no gate entry to IDLE, with the run-end close under the close mode of
its open batch, or of its assigned entry where none is open, and the event behind those already planned; every other lane stays. -/
def Obligations.DrainedLaneEntersIdle : Prop :=
  ∀ (l : Lane) (s : State),
    let r := s.lane l
    let t := stage7 l s
    let planned := match r.plan.stack with | some (.stack events) => events | _ => []
    let idle := fun (q : LaneRec) (event : List StackEvent) =>
      s.setLane l { q with
        state := .idle
        changeover := none
        blindAnswer := false
        plan := { r.plan with stack := some (.stack (planned ++ event)) } }
    (¬ (r.state = .drain ∧ r.web = [] ∧ s.gateOf l = []) → t = s) ∧
    (r.state = .drain → r.web = [] → s.gateOf l = [] →
      (∀ b, r.openBatch = some b → b.mode = .fixed → t = idle r []) ∧
      (∀ b, r.openBatch = some b → b.mode ≠ .fixed →
        t = idle { r with openBatch := none, counters := r.counters.set 20 (r.counters[20] + 1) }
          [⟨.closeShort, b.number, b.count⟩]) ∧
      (r.openBatch = none → (s.entry s.active r.assigned).recipe.map Recipe.closeMode = some .runEndMark →
        (∀ e ∈ planned, e.kind ≠ .closeFull) → t = idle r [⟨.closeEmptyEnd, r.lastBatch, 0⟩]) ∧
      (r.openBatch = none → (s.entry s.active r.assigned).recipe.map Recipe.closeMode = some .runEndMark →
        (∃ e ∈ planned, e.kind = .closeFull) → t = idle r []) ∧
      (r.openBatch = none → (s.entry s.active r.assigned).recipe.map Recipe.closeMode ≠ some .runEndMark → t = idle r []))

/-- R3, R10, R86 to R89, R91, R99, R102: stage 6 plans at the loader, the inspection, the card feeder and the seal platen, in that order, for
the cards formed at k - a, k - b, k - c and k - d and for no other; the command it plans and what it writes in the card, for a card with
these reasons and results; a blank position is given no command. The seal record holds the zone's Z, the excess, and the dwell and
outcome of the seal calculation; R16: that uses the pitch average, or the nominal pitch while there is none; R60: a card's recipe is the
entry its reference names. -/
def Obligations.StationsPlan : Prop :=
  (∀ (k : Index) (l : Lane) (s : State), stage6 k l s =
    (((s.planStation k l .load).planStation k l .inspect).planStation k l .card).planStation k l .sealing) ∧
  (∀ (m : StationMap) (s : State), [Kind.load, .inspect, .card, .sealing, .gate].map m.offset = [m.a, m.b, m.c, m.d, m.e] ∧
    (s.stations = some m → s.map = m)) ∧
  (∀ p : LanePlan, [Kind.load, .inspect, .card, .sealing, .gate, .stack].map p.get =
    [p.load, p.inspect, p.card, p.sealing, p.gate, p.stack]) ∧
  (∀ s : State, (s.timer.average = none → s.pitch = s.map.nominalPitch) ∧ ∀ p, s.timer.average = some p → s.pitch = p) ∧
  (∀ (r : Recipe) (m : StationMap) (pitch : Nat) (zs : ZoneState) (z : Nat), sealRecord r m pitch zs z =
    { z := z, excess := (z : Int) - 10 * (r.ta : Int), dwell := (sealDwell r m pitch zs z).1,
      outcome := (sealDwell r m pitch zs z).2, achieved := none, contact := none }) ∧
  (∀ (c : Card) (r : Recipe) (s : State), (s.entry c.bank c.entry).recipe = some r → s.recipeOf c = r) ∧
  (∀ (l : Lane) (c : Card) (s : State),
      let r := s.recipeOf c
      let sr := sealRecord r s.map s.pitch (s.zone l).state (s.zone l).z
      (c.reasons = [] → s.planFor l .load c =
        (.load true c.serial r.cavities (r.expected.take r.cavities), { c with commanded := { c.commanded with load := true } })) ∧
      (c.reasons ≠ [] → s.planFor l .load c = (.load false c.serial 0 [], c)) ∧
      (c.loadResult.isSome = true → s.planFor l .inspect c =
        (.inspect true c.serial r.cavities c.sku, { c with commanded := { c.commanded with inspect := true } })) ∧
      (c.loadResult = none → s.planFor l .inspect c = (.inspect false c.serial 0 0, c)) ∧
      (c.reasons = [] → s.planFor l .card c =
        (.card true c.serial c.sku, { c with commanded := { c.commanded with card := true } })) ∧
      (c.reasons ≠ [] → s.planFor l .card c = (.card false c.serial 0, c)) ∧
      (¬ (c.reasons = [] ∧ c.placed = some true) → s.planFor l .sealing c = (.sealing false c.serial 0 [], c)) ∧
      (c.reasons = [] → c.placed = some true →
        (sr.outcome = .noHeat → s.planFor l .sealing c =
          (.sealing false c.serial 0 [], { c with sealRec := some sr, reasons := [.sealNoHeat] })) ∧
        (sr.outcome = .noWindow → s.planFor l .sealing c =
          (.sealing false c.serial 0 [], { c with sealRec := some sr, reasons := [.sealUnderdose] })) ∧
        (sr.outcome ≠ .noHeat → sr.outcome ≠ .noWindow → s.planFor l .sealing c =
          (.sealing true c.serial sr.dwell (r.offsets.map (segmentPressure s.map r.pb)),
            { c with
              sealRec := some sr
              commanded := { c.commanded with sealing := true }
              reasons := if sr.outcome = .underdose then [.sealUnderdose]
                else if sr.outcome = .overdose then [.sealOverdose] else [] })))) ∧
    ∀ (k : Index) (l : Lane) (kind : Kind) (s : State), kind = .load ∨ kind = .inspect ∨ kind = .card ∨ kind = .sealing →
      let at' := k - BitVec.ofNat 16 (s.map.offset kind)
      ((∀ c ∈ (s.lane l).web, c.formed ≠ at') → s.planStation k l kind = s) ∧
      ∀ before after c, (s.lane l).web = before ++ c :: after → (∀ x ∈ before ++ after, x.formed ≠ at') → c.formed = at' →
        let t := s.planStation k l kind
        (t.lane l).web = before ++ (s.planFor l kind c).2 :: after ∧
          (t.lane l).plan.get kind = some (s.planFor l kind c).1 ∧
          (∀ other, other ≠ kind → (t.lane l).plan.get other = (s.lane l).plan.get other) ∧
          { t.lane l with web := (s.lane l).web, plan := (s.lane l).plan } = s.lane l ∧
          (∀ m, m ≠ l → t.lane m = s.lane m) ∧ { t with lanes := s.lanes } = s

/-! ## Index continuity and the bank switch -/

/-- R135 to R137: whatever the order of the lanes' gap handling, every gate entry is voided and counted, the web cards that reached the
punch during the missed indexes are retired and counted with INDEX_GAP where they had no reason, the cards that stood at a station from
L to k - 1 take INDEX_GAP, and the freed records join the free list behind those it held. -/
def Obligations.GapHandlingAnyOrder : Prop :=
  ∀ (last k : Index) (order : List Lane) (s : State),
    let t := gapHandling last k order s
    let past := fun (c : Card) => decide (s.map.e ≤ indexDistance c.formed (k - 1))
    let stood := fun (c : Card) => ∃ o ∈ [s.map.a, s.map.b, s.map.c, s.map.d],
      indexDistance c.formed last ≤ o ∧ o ≤ indexDistance c.formed (k - 1)
    t.gate = [] ∧ t.chipAlarms = (s.latchChip .indexGap (bytes16 last ++ bytes16 k)).chipAlarms ∧
      (∃ freed, t.free = s.free ++ freed ∧
        freed.Perm ((s.gate ++ (List.finRange 6).flatMap (fun l => (s.lane l).web.takeWhile past)).map Card.record)) ∧
      (∀ b e, t.entry b e = { s.entry b e with
        refs := (s.entry b e).refs - (s.gate ++ (List.finRange 6).flatMap (fun l => (s.lane l).web.takeWhile past)).countP
          (fun c => c.bank = b ∧ c.entry = e) }) ∧
      ∀ l : Lane,
        let gone := (s.lane l).web.takeWhile past
        (t.lane l).web =
            ((s.lane l).web.dropWhile past).map (fun c => if stood c then c.addReason .indexGap else c) ∧
          (t.lane l).counters[2] =
            (s.lane l).counters[2] + BitVec.ofNat 32 ((s.gateOf l).length + gone.length) ∧
          (∀ r : Reason, (t.lane l).counters[r.counter] = (s.lane l).counters[r.counter] + BitVec.ofNat 32
            (firstReasons (s.gateOf l) r +
              if r = .indexGap then firstReasons gone r + gone.countP (fun c => c.reasons = []) else firstReasons gone r)) ∧
          (t.lane l).counters[18] = (s.lane l).counters[18] + BitVec.ofNat 32 (s.gateOf l).length ∧
          (∀ i ∈ ([0, 1, 16, 17, 19, 20] : List (Fin 21)), (t.lane l).counters[i] = (s.lane l).counters[i]) ∧
          { t.lane l with web := (s.lane l).web, counters := (s.lane l).counters } = s.lane l

/-- R28, R139, R140: lost track frees every record, the gate list first and then the web lists of lanes 0 to 5, counting gate entries as
rejected and gate unverified and web cards as lost; every lane not IDLE is in FAULT afterwards with a blind window of e and TRACK_LOST
latched, and an IDLE lane's state stays. -/
def Obligations.LostTrackFreesEverything : Prop :=
  ∀ (last k : Index) (s : State),
    let t := lostTrack last k s
    t.gate = [] ∧ t.free = s.free ++ s.inUse.map Card.record ∧
      (∀ b e, t.entry b e = { s.entry b e with
        refs := (s.entry b e).refs - s.inUse.countP (fun c => c.bank = b ∧ c.entry = e) }) ∧
      ∀ l : Lane,
        let r := s.lane l
        let q := t.lane l
        q.web = [] ∧ q.counters[2] = r.counters[2] + BitVec.ofNat 32 (s.gateOf l).length ∧
          (∀ why : Reason, q.counters[why.counter] = r.counters[why.counter] + BitVec.ofNat 32 (firstReasons (s.gateOf l) why)) ∧
          q.counters[16] = r.counters[16] + BitVec.ofNat 32 r.web.length ∧
          q.counters[18] = r.counters[18] + BitVec.ofNat 32 (s.gateOf l).length ∧
          (∀ i ∈ ([0, 1, 17, 19, 20] : List (Fin 21)), q.counters[i] = r.counters[i]) ∧
          (r.state = .idle → { q with web := r.web, counters := r.counters } = r) ∧
          (r.state ≠ .idle → { q with web := r.web, counters := r.counters } = { r with
            state := .fault
            changeover := if r.state = .fault then r.changeover else none
            blind := s.map.e
            alarms := latchedLane r .trackLost (bytes16 last ++ bytes16 k) })

/-- R134: a repeat frame changes no tracking: no list, card, reference, serial, index, zone, batch, flag or count, no changeover and no
bank switch. It latches INDEX_REPEAT; only it, the monitor's PLAN_MISMATCH and the ACTIVE part's PLAN_CONFLICT can be latched. -/
def Obligations.RepeatChangesNoTracking : Prop :=
  ∀ (f : Frame) (rest : List Frame) (gapOrder : List Lane) (ticks : List Tick) (s : State), HandsCycle s f rest →
    s.lastIndex = some (frameIndex f) → (∀ raw, Tick.conversion raw ∉ ticks) →
    ∃ t, exec (.cycleFrame gapOrder ticks) s = .next t ∧
      { t with
        buffer := s.buffer
        phase := s.phase
        role := s.role
        pendingRole := s.pendingRole
        ring := s.ring
        timer := s.timer
        lanes := s.lanes
        chipAlarms := s.chipAlarms
        stopReason := s.stopReason } = s ∧
      (∀ l, { t.lane l with alarms := (s.lane l).alarms } = s.lane l ∧
        ∀ i : Fin 7, i ≠ LaneAlarm.planMismatch.place → (t.lane l).alarms[i] = (s.lane l).alarms[i]) ∧
      t.chipAlarms[ChipAlarm.indexRepeat.place] = s.chipAlarms[ChipAlarm.indexRepeat.place].set (bytes16 (frameIndex f)) ∧
      ∀ i : Fin 6, i ≠ ChipAlarm.indexRepeat.place → i ≠ ChipAlarm.planConflict.place → t.chipAlarms[i] = s.chipAlarms[i]

/-- R68, R72: a pending bank switch that is reached is taken when every lane in RUN or DRAIN has a VALID entry of its number in the other
bank; otherwise it is dropped with BANK_SWITCH_FAILED, which names the lowest such lane. One that is not reached stays pending. -/
def Obligations.BankSwitchDecision : Prop :=
  ∀ (k : Index) (s : State), (s.pendingSwitch = none → s.decideSwitch k = s) ∧
    ∀ x, s.pendingSwitch = some x →
      let blocks := fun (l : Lane) => ((s.lane l).state = .run ∨ (s.lane l).state = .drain) ∧
        (s.entry s.active.other (s.lane l).assigned).recipe = none
      (32768 ≤ indexDistance x k → s.decideSwitch k = s) ∧
      (indexDistance x k < 32768 → (∀ l, ¬ blocks l) →
        s.decideSwitch k = { s with active := s.active.other, pendingSwitch := none }) ∧
      (indexDistance x k < 32768 → ∀ l, blocks l → (∀ m, m < l → ¬ blocks m) →
        s.decideSwitch k = State.latchChip { s with pendingSwitch := none } .bankSwitchFailed
          (bytes16 x ++ [BitVec.ofNat 8 l.val]))

/-! ## Command and status slots -/

/-- R134, R149, R150, R151: what becomes of one command slot of the Slot Map. In ACTIVE a planned command is written into a present slot
that holds NONE, one that holds anything else is left with PLAN_CONFLICT latched; in MONITOR the slot is compared and never written. In
both a planned command without a present slot is counted absent. At a repeat STACK_CMD is not planned; that MONITOR then compares the STACK
slot as one with no command planned, and counts a mismatch where it holds anything, is the model's reading (assumption 10). A slot with
another use is left alone. R153, R154: the command tags, and the fourteen payload bytes of every command, high byte first. -/
def Obligations.CommandSlotHandling : Prop :=
  ([Kind.load, Kind.inspect, Kind.card, Kind.sealing, Kind.gate, Kind.stack].map Kind.commandTag =
    [0x10, 0x11, 0x12, 0x13, 0x14, 0x15]) ∧
  (∀ (w16 : BitVec 16) (w24 : BitVec 24) (w32 : BitVec 32),
    (bytes16 w16).map BitVec.toNat = [w16.toNat / 256, w16.toNat % 256] ∧
    (bytes24 w24).map BitVec.toNat = [w24.toNat / 65536, w24.toNat / 256 % 256, w24.toNat % 256] ∧
    (bytes32 w32).map BitVec.toNat =
      [w32.toNat / 16777216, w32.toNat / 65536 % 256, w32.toNat / 256 % 256, w32.toNat % 256]) ∧
  (∀ (f : List Byte) (i : Nat), (word16 f i).toNat = 256 * natAt f i + natAt f (i + 1) ∧
    (word24 f i).toNat = 65536 * natAt f i + 256 * natAt f (i + 1) + natAt f (i + 2) ∧
    (word32 f i).toNat = 16777216 * natAt f i + 65536 * natAt f (i + 1) + 256 * natAt f (i + 2) + natAt f (i + 3)) ∧
  (∀ (go : Bool) (serial : Serial) (cavities : Nat) (counts : List Nat) (sku : Sku) (dwell : Nat) (ps : List Nat),
    let start := (if go then 0x01#8 else 0x00#8) :: bytes24 serial
    (Command.load go serial cavities counts).payload = start ++ [byteOf cavities] ++
      (List.range 4).map (fun j => byteOf (16 * counts.getD (2 * j) 0 + counts.getD (2 * j + 1) 0)) ++ List.replicate 5 0 ∧
    (Command.inspect go serial cavities sku).payload = start ++ [byteOf cavities] ++ bytes32 sku ++ List.replicate 5 0 ∧
    (Command.card go serial sku).payload = start ++ bytes32 sku ++ List.replicate 6 0 ∧
    (Command.sealing go serial dwell ps).payload =
      start ++ bytes16 (BitVec.ofNat 16 dwell) ++ (List.range 8).map (fun j => byteOf (ps.getD j 0))) ∧
  (∀ (reject : Bool) (serial : Serial) (reason : Option Reason),
    let codes : List Reason := [.loadShort, .loadOver, .inspectFail, .weightOut, .noCard, .stationSilent, .sealNoHeat, .sealUnderdose,
      .sealOverdose, .sealUnconfirmed, .forced, .lanePurge, .indexGap]
    (Command.gate reject serial reason).payload = (if reject then 0x02#8 else 0x01#8) :: bytes24 serial ++
      [BitVec.ofNat 8 ((reason.map (fun r => codes.idxOf r + 1)).getD 0)] ++ List.replicate 9 0) ∧
  (∀ events : List StackEvent, events.length ≤ 3 →
    let kinds : List StackEventKind := [.add, .closeFull, .closeShort, .closeChangeover, .closeEmptyEnd]
    (Command.stack events).payload = BitVec.ofNat 8 events.length ::
      (List.range 3).flatMap (fun j => (events[j]?.map (fun e =>
        BitVec.ofNat 8 (kinds.idxOf e.kind + 1) :: bytes16 e.number ++ [byteOf e.count])).getD [0, 0, 0, 0]) ++ [0]) ∧
  (∀ (isRepeat : Bool) (use : SlotUse) (i : Nat) (f : Frame) (s : State), (∀ kind l, use ≠ .command kind l) →
    commandSlot isRepeat ⟨s, f⟩ (use, i) = ⟨s, f⟩) ∧
  ∀ (isRepeat : Bool) (kind : Kind) (l : Lane) (i : Nat) (f : Frame) (s : State),
    let w := commandSlot isRepeat ⟨s, f⟩ (.command kind l, i)
    let slot := slotBytes f i
    let plan := if isRepeat = true ∧ kind = .stack then none else (s.lane l).plan.get kind
    let absent : State := { s with ring := { s.ring with slotsAbsent := min (s.ring.slotsAbsent + 1) 65535 } }
    (s.role = .active →
      (plan = none → w = ⟨s, f⟩) ∧
      ∀ cmd, plan = some cmd →
        (slotCount f ≤ i → w = ⟨absent, f⟩) ∧
        (i < slotCount f → byteAt slot 0 = 0x00 →
          w = ⟨s, patch f (8 + 16 * i) ([kind.commandTag, s.nodeAddr.zeroExtend 8] ++ cmd.payload)⟩) ∧
        (i < slotCount f → byteAt slot 0 ≠ 0x00 →
          w = ⟨s.latchChip .planConflict [BitVec.ofNat 8 i, byteAt slot 1], f⟩)) ∧
    (s.role = .monitor →
      let mismatch := State.latchLane
        { s with ring := { s.ring with mismatches := min (s.ring.mismatches + 1) 65535 } } l .planMismatch
        [BitVec.ofNat 8 i]
      w.frame = f ∧
      (plan = none → slotCount f ≤ i ∨ byteAt slot 0 = 0x00 → w.state = s) ∧
      (plan = none → i < slotCount f → byteAt slot 0 ≠ 0x00 → w.state = mismatch) ∧
      ∀ cmd, plan = some cmd →
        let compared := if kind = .sealing then 14 else if kind = .stack then 1 + 4 * natAt cmd.payload 0 else 4
        let agrees := byteAt slot 0 = kind.commandTag ∧ cmd.payload.take compared = (slot.drop 2).take compared
        (slotCount f ≤ i → w.state = absent) ∧
        (i < slotCount f → byteAt slot 0 = 0x00 →
          w.state = { s with ring := { s.ring with unverified := min (s.ring.unverified + 1) 65535 } }) ∧
        (i < slotCount f → byteAt slot 0 ≠ 0x00 → agrees → w.state = s) ∧
        (i < slotCount f → byteAt slot 0 ≠ 0x00 → ¬ agrees → w.state = mismatch))

/-- R149, R152, R156, R176: the status slot, mapped and present, is written whatever it held, with the part's state as it stands; mapped
and not present it counts as absent. Each lane's two state bits and its summary bit stand at its place in the payload. It is so at a repeat
too, where R134 and R152 have the slot show the stall flag that the last accepted frame left: the model's choice (assumption 24). -/
def Obligations.StatusSlotShowsState : Prop :=
  ∀ (f : Frame) (s : State),
    let w := writeStatus ⟨s, f⟩
    let p := s.statusPayload
    let states := 256 * natAt p 3 + natAt p 4
    ((∀ i : Fin 48, s.slotMap[i] ≠ .status) → w = ⟨s, f⟩) ∧
    (∀ i : Fin 48, s.slotMap[i] = .status → (∀ j : Fin 48, j < i → s.slotMap[j] ≠ .status) →
      (slotCount f ≤ i → w = ⟨{ s with ring := { s.ring with slotsAbsent := min (s.ring.slotsAbsent + 1) 65535 } }, f⟩) ∧
      (i < slotCount f → w = ⟨s, patch f (8 + 16 * i) ([0x30, s.nodeAddr.zeroExtend 8] ++ p ++ [0, 0])⟩)) ∧
    p.length = 12 ∧ byteAt p 0 = (match s.role with | .bypass => 0 | .monitor => 1 | .active => 2) ∧
    byteAt p 1 = (if s.active = .A then 0 else 1) ∧ byteAt p 2 = BitVec.ofNat 8 s.stopReason ∧
    (∀ l : Lane, states / 4 ^ l.val % 4 =
      match (s.lane l).state with | .idle => 0 | .run => 1 | .drain => 2 | .fault => 3) ∧
    (∀ l : Lane, (byteAt p 5).getLsbD l =
      decide (∃ i : Fin 7, (s.lane l).alarms[i].latch.isSome = true ∧ (s.lane l).alarms[i].summaryEn = true)) ∧
    (byteAt p 6 = if ∃ i : Fin 6, s.chipAlarms[i].latch.isSome = true ∧ s.chipAlarms[i].summaryEn = true then 1 else 0) ∧
    ((byteAt p 7).getLsbD 0 = s.pendingSwitch.isSome ∧
      (byteAt p 7).getLsbD 1 = decide (∃ l, (s.lane l).changeover.isSome = true) ∧
      (byteAt p 7).getLsbD 2 = s.timer.stall) ∧
    word16 p 8 = BitVec.ofNat 16 (s.timer.average.getD 0) ∧ word16 p 10 = s.lastIndex.getD 0

/-! ## Service requests that read -/

/-- R164, R165, R166: IDENTIFY and READ_STATE answer the identity, the lane summaries and the state of the part, and change nothing but
the frame in process. -/
def Obligations.IdentifyAndReadState : Prop :=
  ∀ (f : Frame) (rest : List Frame) (s : State),
    let d := serviceData f
    let role := fun (r : Role) => match r with | .bypass => 0#8 | .monitor => 1#8 | .active => 2#8
    let pendingRole := (s.pendingRole.map role).getD 0
    (Serves s f rest .identify →
      (restZero d 0 = true → exec .identify s = .next (replied s f rest .done
        [0x5E, 0x2A, 0x36, 0x16, 0x01, s.nodeAddr.zeroExtend 8, role s.role, pendingRole])) ∧
      (restZero d 0 = false → exec .identify s = .next (refusedFormat s f rest))) ∧
    (Serves s f rest .readState →
      (restZero d 1 = false → exec .readState s = .next (refusedFormat s f rest)) ∧
      (restZero d 1 = true → 1 < natAt d 0 → exec .readState s = .next (replied s f rest .refusedRange [])) ∧
      (restZero d 1 = true → natAt d 0 = 0 → ∃ data, exec .readState s = .next (replied s f rest .done data) ∧
        data.length = 48 ∧ ∀ l : Lane,
          let r := s.lane l
          let b := (data.drop (8 * l.val)).take 8
          byteAt b 0 = (match r.state with | .idle => 0 | .run => 1 | .drain => 2 | .fault => 3) ∧
            byteAt b 1 = BitVec.ofNat 8 r.assigned.val ∧
            byteAt b 2 = (r.changeover.map (fun ch => BitVec.ofNat 8 ch.entry.val)).getD 0xFF ∧
            word16 b 3 = (r.changeover.map Changeover.index).getD 0 ∧
            (byteAt b 5).getLsbD 0 = r.force ∧ (byteAt b 5).getLsbD 1 = r.autoPurge ∧ (byteAt b 5).getLsbD 2 = false ∧
            ((s.gateOf l).length ≤ 3 → natAt b 5 / 16 % 4 = (s.gateOf l).length) ∧
            byteAt b 6 = BitVec.ofNat 8 r.blind ∧ byteAt b 7 = BitVec.ofNat 8 r.web.length) ∧
      (restZero d 1 = true → natAt d 0 = 1 → exec .readState s = .next (replied s f rest .done
        ([role s.role, pendingRole, if s.active = .A then 0 else 1, if s.pendingSwitch.isSome then 1 else 0]
          ++ bytes16 (s.pendingSwitch.getD 0) ++ nat16 (s.timer.average.getD 0)
          ++ [if s.timer.stall then 1 else 0, if s.lastIndex.isSome then 1 else 0] ++ bytes16 (s.lastIndex.getD 0)
          ++ [if s.stations.isSome then 1 else 0, BitVec.ofNat 8 s.inUse.length] ++ nat16 s.ring.discarded
          ++ nat16 s.ring.crcErrors ++ nat16 s.ring.slotsAbsent ++ nat16 s.ring.unverified ++ nat16 s.ring.mismatches))))

/-- R7: READ_STATIONS returns the map state and every field as they stand, INVALID and zeros while the map is INVALID, with DONE; at
broadcast it is not executed and counted refused. A malformed operand is refused FORMAT (R157). -/
def Obligations.ReadStationsReturnsMap : Prop :=
  ∀ (f : Frame) (rest : List Frame) (s : State), HandsService s f rest .readStations →
    (byteAt f 1 ≠ 63 → restZero (serviceData f) 0 = true →
      (∀ m, s.stations = some m → exec .readStations s = .next (replied s f rest .done
        ([1, byteOf m.a, byteOf m.b, byteOf m.c, byteOf m.d, byteOf m.e, byteOf m.g, byteOf m.silenceLimit,
          byteOf m.dwellFraction] ++ nat16 m.motion ++ [byteOf m.pMin, byteOf m.pMax] ++ nat16 m.nominalPitch))) ∧
      (s.stations = none → exec .readStations s = .next (replied s f rest .done (List.replicate 15 0)))) ∧
    (byteAt f 1 ≠ 63 → restZero (serviceData f) 0 = false → exec .readStations s = .next (refusedFormat s f rest)) ∧
    (byteAt f 1 = 63 → exec .readStations s = .next (countedRefused s f rest))

/-- R65: READ_RECIPE returns an entry's state, its fields as stored, zeros while it is EMPTY, and its reference count; a bank or an entry
that does not exist is refused RANGE and a malformed operand FORMAT; at broadcast it is counted refused. It changes nothing. -/
def Obligations.ReadRecipeReturnsEntry : Prop :=
  ∀ (f : Frame) (rest : List Frame) (s : State), HandsService s f rest .readRecipe →
    let d := serviceData f
    (byteAt f 1 = 63 → exec .readRecipe s = .next (countedRefused s f rest)) ∧
    (byteAt f 1 ≠ 63 →
      (restZero d 2 = false → exec .readRecipe s = .next (refusedFormat s f rest)) ∧
      (restZero d 2 = true → 1 < natAt d 0 ∨ 15 < natAt d 1 →
        exec .readRecipe s = .next (replied s f rest .refusedRange [])) ∧
      ∀ (b : Bank) (n : EntryNo), restZero d 2 = true → natAt d 0 = (if b = .A then 0 else 1) → natAt d 1 = n →
        ((s.entry b n).recipe = none → exec .readRecipe s = .next (replied s f rest .done
          ([byteAt d 0, byteAt d 1, 0, byteOf (s.entry b n).refs] ++ List.replicate 35 0))) ∧
        ∀ r, (s.entry b n).recipe = some r → exec .readRecipe s = .next (replied s f rest .done
          ([byteAt d 0, byteAt d 1, 1, byteOf (s.entry b n).refs] ++ bytes32 r.sku ++ [byteOf r.cavities]
            ++ pack8 r.expected ++ nat16 r.wMin ++ nat16 r.wMax ++ [byteOf r.ta] ++ nat16 r.eMin ++ nat16 r.heatDose
            ++ nat16 r.dMin ++ nat16 r.dMax ++ [byteOf r.tolU, byteOf r.tolO, byteOf r.pb]
            ++ padTo 8 (r.offsets.map signedByte) ++
            [byteOf r.batchSize, match r.closeMode with | .fixed => 1 | .runEnd => 2 | .runEndMark => 3])))

/-- R168: READ_COUNTERS returns twelve counters of a lane, high byte first: counters 0 to 11 on page 0, and 12 to 20 with three fields of 0
behind them on page 1. A lane or a page that does not exist is refused RANGE. It changes nothing. -/
def Obligations.ReadCountersReturnsPage : Prop :=
  ∀ (f : Frame) (rest : List Frame) (s : State), Serves s f rest .readCounters →
    let d := serviceData f
    (restZero d 2 = true → 5 < natAt d 0 ∨ 1 < natAt d 1 →
      exec .readCounters s = .next (replied s f rest .refusedRange [])) ∧
    (restZero d 2 = false → exec .readCounters s = .next (refusedFormat s f rest)) ∧
    ∀ l : Lane, restZero d 2 = true → natAt d 0 = l → natAt d 1 ≤ 1 →
      ∃ data, exec .readCounters s = .next (replied s f rest .done data) ∧ data.length = 48 ∧
        (natAt d 1 = 0 → ∀ j : Fin 12, word32 data (4 * j.val) = (s.lane l).counters[j.val]) ∧
        (natAt d 1 = 1 → (∀ j : Fin 9, word32 data (4 * j.val) = (s.lane l).counters[12 + j.val]) ∧
          ∀ j, 36 ≤ j → byteAt data j = 0)

/-- R33: READ_CARD sees the state kept for it before the pitch steps of a cycle frame that was ahead of it, where one was kept, and
otherwise the state as it stands. R34, R148, R158: it finds the web card at the position reckoned against the last index, or the lane's gate entries oldest
first, and answers no card otherwise; READ_SLOT_MAP returns the code of each of the 48 entries: bits 7 to 6 the use, 5 to 3 the kind, 2 to 0
the lane. Neither changes anything. R35, R159: the
bytes of the card readout, with the bytes of an absent part 0. That the cavity count in byte 18 belongs to the load result, and is 0 with it,
is the model's reading (assumption 11). -/
def Obligations.ReadCardAndSlotMap : Prop :=
  (∀ (list : Byte) (k : Index) (c : Card),
    let b := cardBytes list k c
    let achieved := c.sealRec.bind SealRecord.achieved
    let contact := c.sealRec.bind SealRecord.contact
    let codes : List Reason := [.loadShort, .loadOver, .inspectFail, .weightOut, .noCard, .stationSilent, .sealNoHeat, .sealUnderdose,
      .sealOverdose, .sealUnconfirmed, .forced, .lanePurge, .indexGap]
    let outcomes : List SealOutcome := [.ok, .clampedLow, .clampedHigh, .noHeat, .noWindow, .underdose, .overdose]
    let zeros := fun (i j : Nat) => ∀ n, i ≤ n → n ≤ j → byteAt b n = 0
    b.length = 45 ∧ byteAt b 0 = list ∧ natAt b 1 = c.record.val ∧ word24 b 2 = c.serial ∧ natAt b 5 = c.lane.val ∧
    word16 b 6 = c.formed ∧ nat16At b 8 = indexDistance c.formed k ∧ byteAt b 10 = (if c.bank = .A then 0 else 1) ∧
    natAt b 11 = c.entry.val ∧ word32 b 12 = c.sku ∧
    (List.range 8).map (byteAt b 16).getLsbD =
      [c.commanded.load, c.commanded.inspect, c.commanded.card, c.commanded.sealing, false, false, false, false] ∧
    (List.range 8).map (byteAt b 17).getLsbD =
      [c.loadResult.isSome, c.inspection.isSome, c.placed.isSome, c.sealRec.isSome, achieved.isSome, contact.isSome, c.gateIndex.isSome,
        false] ∧
    (c.loadResult = none → zeros 18 22) ∧
    (∀ counts, c.loadResult = some counts → byteAt b 18 = BitVec.ofNat 8 counts.length ∧
      ∀ j < 4, byteAt b (19 + j) = BitVec.ofNat 8 (16 * counts.getD (2 * j) 0 + counts.getD (2 * j + 1) 0)) ∧
    (c.inspection = none → zeros 23 25) ∧
    (∀ r, c.inspection = some r → (∀ j < 8, (byteAt b 23).getLsbD (7 - j) = r.fails.getD j false) ∧
      word16 b 24 = BitVec.ofNat 16 (r.weight.getD 65535)) ∧
    byteAt b 26 = (if c.placed = some true then 0x01 else 0x00) ∧
    (c.sealRec = none → zeros 27 39) ∧
    (∀ r, c.sealRec = some r →
      word16 b 27 = BitVec.ofNat 16 r.z ∧ word16 b 29 = BitVec.ofInt 16 r.excess ∧ word16 b 31 = BitVec.ofNat 16 r.dwell ∧
      natAt b 33 = outcomes.idxOf r.outcome + 1 ∧ word16 b 34 = BitVec.ofNat 16 (achieved.getD 0) ∧
      byteAt b 36 = (if contact = some true then 0x01 else 0x00) ∧ word16 b 37 = BitVec.ofNat 16 (r.dwell / 8) ∧
      ∀ i < 8, (byteAt b 39).getLsbD (7 - i) = decide (r.dwell * (i + 1) / 8 - r.dwell * i / 8 = r.dwell / 8 + 1)) ∧
    (c.reasons.Nodup → (∀ r, (word16 b 40).getLsbD (codes.idxOf r) = decide (r ∈ c.reasons)) ∧
      ∀ n, 13 ≤ n → (word16 b 40).getLsbD n = false) ∧
    natAt b 42 = ((c.reasons.head?.map (fun r => codes.idxOf r + 1)).getD 0) ∧ word16 b 43 = c.gateIndex.getD 0) ∧
  ∀ (f : Frame) (rest : List Frame) (s : State),
    let d := serviceData f
    (Serves s f rest .readCard →
      (restZero d 2 = false → exec .readCard s = .next (refusedFormat s f rest)) ∧
      (restZero d 2 = true → 5 < natAt d 0 ∨ 34 < natAt d 1 →
        exec .readCard s = .next (replied s f rest .refusedRange [])) ∧
      ∀ (l : Lane) (v : CardView), restZero d 2 = true → natAt d 0 = l →
        (∃ before after, s.cardViews = before ++ v :: after ∧ v.place = 0 ∧ ∀ x ∈ before, x.place ≠ 0) ∨
          ((∀ x ∈ s.cardViews, x.place ≠ 0) ∧
            v = ⟨0, s.lastIndex, s.stations, Vector.ofFn (fun m => (s.lane m).web), s.gate⟩) →
        let e := (v.stations.map StationMap.e).getD 0
        let web := v.webs[l]
        (v.lastIndex = none → natAt d 1 ≤ 34 → exec .readCard s = .next (replied s f rest .done [])) ∧
        ∀ k, v.lastIndex = some k →
          (∀ c, natAt d 1 < 32 → natAt d 1 < e → c ∈ web → indexDistance c.formed k = natAt d 1 →
            (∀ x ∈ web, x.formed = c.formed → x = c) →
            exec .readCard s = .next (replied s f rest .done (cardBytes 1 k c))) ∧
          (natAt d 1 < 32 → e ≤ natAt d 1 ∨ (∀ c ∈ web, indexDistance c.formed k ≠ natAt d 1) →
            exec .readCard s = .next (replied s f rest .done [])) ∧
          ∀ j < 3, natAt d 1 = 32 + j →
            exec .readCard s = .next (replied s f rest .done
              (((v.gate.filter (fun c => decide (c.lane = l)))[j]?.map (cardBytes 2 k)).getD []))) ∧
    (Serves s f rest .readSlotMap →
      (restZero d 0 = false → exec .readSlotMap s = .next (refusedFormat s f rest)) ∧
      (restZero d 0 = true → ∃ data, exec .readSlotMap s = .next (replied s f rest .done data) ∧ data.length = 48 ∧
        let kinds : List Kind := [.load, .inspect, .card, .sealing, .gate, .stack]
        ∀ i : Fin 48, byteAt data i = match s.slotMap[i] with
          | .unused => 0x00
          | .command kind l => BitVec.ofNat 8 (64 + 8 * kinds.idxOf kind + l)
          | .report kind l => BitVec.ofNat 8 (128 + 8 * kinds.idxOf kind + l)
          | .status => 0xC0))

/-! ## Service requests that write tables -/

/-- R148, R158: MAP_SLOT, in the order of its table, which needs every lane IDLE; a use code's fields, and the three that no use has, a
lane above 5, a kind above 5 and REPORT with STACK; the pairs are written in order, a later one replacing an earlier one, and the reply is the
whole map. That a refusal other than FORMAT returns the map too is the model's reading (assumption 8). -/
def Obligations.MapSlotWritesPairs : Prop :=
  (∀ b : Byte,
    let use := b.toNat / 64
    let kind := b.toNat / 8 % 8
    let lane := b.toNat % 8
    let kinds : List Kind := [.load, .inspect, .card, .sealing, .gate, .stack]
    (use = 0 → useOf b = some .unused) ∧ (use = 3 → useOf b = some .status) ∧
    (use = 1 ∨ use = 2 → 5 < lane ∨ 5 < kind ∨ use = 2 ∧ kind = 5 → useOf b = none) ∧
    ∀ (l : Lane) (k : Kind), lane = l → kind = kinds.idxOf k →
      (use = 1 → useOf b = some (.command k l)) ∧ (use = 2 → k ≠ .stack → useOf b = some (.report k l))) ∧
  (∀ s : State, s.allIdle = true ↔ ∀ l : Lane, (s.lane l).state = .idle) ∧
  (∀ u : SlotUse,
    let kinds : List Kind := [.load, .inspect, .card, .sealing, .gate, .stack]
    u.code = match u with
      | .unused => 0x00
      | .command k l => BitVec.ofNat 8 (64 + 8 * kinds.idxOf k + l)
      | .report k l => BitVec.ofNat 8 (128 + 8 * kinds.idxOf k + l)
      | .status => 0xC0) ∧
  ∀ (f : Frame) (rest : List Frame) (s : State), Serves s f rest .mapSlot →
    let d := serviceData f
    let n := natAt d 0
    let slot := fun (j : Nat) => natAt d (1 + 2 * j)
    let code := fun (j : Nat) => byteAt d (2 + 2 * j)
    let reply := fun (t : State) (status : Status) => replied t f rest status (t.slotMap.toList.map SlotUse.code)
    let malformed := n = 0 ∨ 16 < n ∨ restZero d (1 + 2 * n) = false ∨
      ∃ j < n, ((code j).toNat < 64 ∨ 192 ≤ (code j).toNat) ∧ (code j).toNat % 64 ≠ 0
    let outside := ∃ j < n, 47 < slot j ∨ useOf (code j) = none
    let result := fun (i : Fin 48) =>
      ((List.range n).reverse.find? (fun j => slot j = i)).elim s.slotMap[i] (fun j => (useOf (code j)).getD .unused)
    let distinct := ∀ i j : Fin 48, i ≠ j → result i = result j → result i = .unused
    (malformed → exec .mapSlot s = .next (refusedFormat s f rest)) ∧
    (¬ malformed → s.allIdle = false → exec .mapSlot s = .next (reply s .refusedState)) ∧
    (¬ malformed → s.allIdle = true → outside → exec .mapSlot s = .next (reply s .refusedRange)) ∧
    (¬ malformed → s.allIdle = true → ¬ outside → ¬ distinct → exec .mapSlot s = .next (reply s .refusedDuplicate)) ∧
    (¬ malformed → s.allIdle = true → ¬ outside → distinct →
      ∃ t, exec .mapSlot s = .next (reply t .done) ∧ { t with slotMap := s.slotMap } = s ∧
        ∀ i : Fin 48, t.slotMap[i] = result i)

/-- R2, R6: SET_STATIONS, in the order of its table: it needs every lane IDLE and an empty gate list, and every field in its range with the
offsets strictly increasing; it replaces every field at once. R160: in the state kept for a READ_CARD behind it too, which is the model's
choice (assumption 21). -/
def Obligations.SetStationsReplacesMap : Prop :=
  ∀ (f : Frame) (rest : List Frame) (s : State), Serves s f rest .setStations →
    let d := serviceData f
    let x := natAt d
    let inRange := 0 < x 0 ∧ x 0 < x 1 ∧ x 1 < x 2 ∧ x 2 < x 3 ∧ x 3 < x 4 ∧ x 4 ≤ 31 ∧ 1 ≤ x 5 ∧ x 5 ≤ 3 ∧ 1 ≤ x 6 ∧
      x 6 ≤ 15 ∧ 32 ≤ x 7 ∧ x 7 ≤ 224 ∧ nat16At d 8 ≤ 2000 ∧ 1 ≤ x 10 ∧ x 10 ≤ x 11 ∧ 100 ≤ nat16At d 12
    let m : StationMap := ⟨x 0, x 1, x 2, x 3, x 4, x 5, x 6, x 7, nat16At d 8, x 10, x 11, nat16At d 12⟩
    (restZero d 14 = false → exec .setStations s = .next (refusedFormat s f rest)) ∧
    (restZero d 14 = true → s.allIdle = false ∨ s.gate ≠ [] →
      exec .setStations s = .next (replied s f rest .refusedState [])) ∧
    (restZero d 14 = true → s.allIdle = true → s.gate = [] → ¬ inRange →
      exec .setStations s = .next (replied s f rest .refusedRange [])) ∧
    (restZero d 14 = true → s.allIdle = true → s.gate = [] → inRange →
      exec .setStations s = .next (replied { s with
        stations := some m
        cardViews := s.cardViews.map (fun v => { v with stations := some m }) } f rest .done []))

/-- R58, R59, R63, R158: LOAD_RECIPE, in the order of its table: it writes or clears an entry whole, of the bank that is not active, while no
tracked card refers to it, and answers bank, entry, state and reference count. A recipe is taken with every field in its range, the counts
inside the cavity count and all eight offsets; the counts beyond the cavity count are not examined. That the reply for a bank or an entry
that does not exist holds zeros is the model's reading (assumption 8). -/
def Obligations.LoadRecipeWritesEntry : Prop :=
  (∀ (b : Bank) (n : EntryNo) (e : Entry) (s : State),
    let t := s.setEntry b n e
    t.entry b n = e ∧ (∀ c m, c ≠ b ∨ m ≠ n → t.entry c m = s.entry c m) ∧ { t with bankA := s.bankA, bankB := s.bankB } = s) ∧
  ∀ (f : Frame) (rest : List Frame) (s : State), Serves s f rest .loadRecipe →
    let d := serviceData f
    let x := natAt d
    let kind := x 2
    let malformed := ¬ (kind = 1 ∧ restZero d 38 = true ∨ kind = 2 ∧ restZero d 3 = true)
    let count := fun (j : Nat) => if j % 2 = 0 then x (8 + j / 2) / 16 else x (8 + j / 2) % 16
    let inRange := (1 ≤ x 7 ∧ x 7 ≤ 8 ∧ ∀ j < x 7, 1 ≤ count j ∧ count j ≤ 15) ∧
      (nat16At d 12 ≤ nat16At d 14 ∧ nat16At d 14 ≤ 65534) ∧ (60 ≤ x 16 ∧ x 16 ≤ 220) ∧
      (50 ≤ nat16At d 17 ∧ nat16At d 17 ≤ 500) ∧ (1000 ≤ nat16At d 19 ∧ nat16At d 19 ≤ 60000) ∧
      (20 ≤ nat16At d 21 ∧ nat16At d 21 ≤ nat16At d 23 ∧ nat16At d 23 ≤ 3000) ∧ x 25 ≤ 64 ∧ x 26 ≤ 255 ∧
      (12 ≤ x 27 ∧ x 27 ≤ 225) ∧ (∀ j < 8, x (28 + j) % 128 ≤ 63) ∧ (1 ≤ x 36 ∧ x 36 ≤ 250) ∧ 1 ≤ x 37 ∧ x 37 ≤ 3
    let r : Recipe := {
      sku := word32 d 3
      cavities := x 7
      expected := (List.range (x 7)).map count
      wMin := nat16At d 12
      wMax := nat16At d 14
      ta := x 16
      eMin := nat16At d 17
      heatDose := nat16At d 19
      dMin := nat16At d 21
      dMax := nat16At d 23
      tolU := x 25
      tolO := x 26
      pb := x 27
      offsets := (List.range 8).map (fun j => if x (28 + j) < 128 then (x (28 + j) : Int) else -((x (28 + j) - 128 : Nat) : Int))
      batchSize := x 36
      closeMode := if x 37 = 1 then .fixed else if x 37 = 2 then .runEnd else .runEndMark }
    (malformed → exec .loadRecipe s = .next (refusedFormat s f rest)) ∧
    (¬ malformed → 1 < x 0 ∨ 15 < x 1 → exec .loadRecipe s = .next (replied s f rest .refusedRange [])) ∧
    ∀ (b : Bank) (n : EntryNo), ¬ malformed → x 0 = (if b = .A then 0 else 1) → x 1 = n →
      let e := s.entry b n
      let kept := [byteAt d 0, byteAt d 1, if e.recipe.isSome then 1 else 0, BitVec.ofNat 8 e.refs]
      (b = s.active → exec .loadRecipe s = .next (replied s f rest .refusedState kept)) ∧
      (b ≠ s.active → 0 < e.refs → exec .loadRecipe s = .next (replied s f rest .refusedInUse kept)) ∧
      (b ≠ s.active → e.refs = 0 → kind = 1 → ¬ inRange → exec .loadRecipe s = .next (replied s f rest .refusedRange kept)) ∧
      (b ≠ s.active → e.refs = 0 → kind = 1 → inRange →
        exec .loadRecipe s = .next
          (replied (s.setEntry b n ⟨some r, 0⟩) f rest .done [byteAt d 0, byteAt d 1, 1, 0])) ∧
      (b ≠ s.active → e.refs = 0 → kind = 2 →
        exec .loadRecipe s = .next
          (replied (s.setEntry b n ⟨none, 0⟩) f rest .done [byteAt d 0, byteAt d 1, 0, 0]))

/-- R58, R59, R158: the recipe of an operand: its first cavity-count counts, its eight offsets read as sign and magnitude with a negative
zero stored as 0, and every other field at its place, the close mode by its code; an operand whose close mode code names no mode gives no
recipe. A recipe in range read back from the bytes READ_RECIPE gives is the same. -/
def Obligations.RecipeOperandRoundTrip : Prop :=
  (∀ (r : Recipe) (before after : List Byte), r.inRange = true →
      recipeOf (before ++ r.bytes ++ after) before.length = some r) ∧
    (∀ d : List Byte, recipeOf d 3 = none ↔ natAt d 37 = 0 ∨ 3 < natAt d 37) ∧
    ∀ (d : List Byte) (r : Recipe), recipeOf d 3 = some r →
      natAt d 37 = (match r.closeMode with | .fixed => 1 | .runEnd => 2 | .runEndMark => 3) ∧
      r.expected.length = min (natAt d 7) 8 ∧ r.offsets.length = 8 ∧
      r.sku = word32 d 3 ∧ r.cavities = natAt d 7 ∧ r.wMin = nat16At d 12 ∧ r.wMax = nat16At d 14 ∧ r.ta = natAt d 16 ∧
        r.eMin = nat16At d 17 ∧ r.heatDose = nat16At d 19 ∧ r.dMin = nat16At d 21 ∧ r.dMax = nat16At d 23 ∧
        r.tolU = natAt d 25 ∧ r.tolO = natAt d 26 ∧ r.pb = natAt d 27 ∧ r.batchSize = natAt d 36 ∧
        (∀ j < r.cavities, j < 8 → r.expected.getD j 0 =
          if j % 2 = 0 then natAt d (8 + j / 2) / 16 else natAt d (8 + j / 2) % 16) ∧
        ∀ j < 8, r.offsets.getD j 0 =
          if natAt d (28 + j) < 128 then (natAt d (28 + j) : Int) else -((natAt d (28 + j) - 128 : Nat) : Int)

/-- R66, R131, R143, R169: SWITCH_BANK schedules a switch unless one is pending; SET_ROLE sets the pending role; CLEAR_COUNTERS zeroes the
twenty-one counters of a lane, or with 0xFF those of every lane and the five of the Ring Port. The reply shows the state after the
request. The order of the two bytes in SET_ROLE's reply, and that SWITCH_BANK and SET_ROLE answer a refusal with the same data as the state
stands, are the model's readings (assumption 8). -/
def Obligations.SwitchRoleAndCounters : Prop :=
  [Role.bypass, .monitor, .active].map Role.code = [0, 1, 2] ∧ pendingRoleCode none = 0 ∧
    (∀ r, pendingRoleCode (some r) = r.code) ∧
  (∀ (f : Frame) (rest : List Frame) (s : State),
      let d := serviceData f
      let bank := if s.active = .A then 0#8 else 1#8
      (Serves s f rest .switchBank →
        (restZero d 3 = false → exec .switchBank s = .next (refusedFormat s f rest)) ∧
        (∀ x, restZero d 3 = true → s.pendingSwitch = some x →
          exec .switchBank s = .next (replied s f rest .refusedBusy ([bank, 1] ++ bytes16 x))) ∧
        (restZero d 3 = true → s.pendingSwitch = none →
          exec .switchBank s = .next
            (replied { s with pendingSwitch := some (word16 d 1) } f rest .scheduled ([bank, 1] ++ bytes16 (word16 d 1))))) ∧
      (Serves s f rest .setRole →
        (restZero d 1 = false → exec .setRole s = .next (refusedFormat s f rest)) ∧
        (restZero d 1 = true → natAt d 0 ≠ 1 → natAt d 0 ≠ 2 →
          exec .setRole s = .next (replied s f rest .refusedRange [s.role.code, pendingRoleCode s.pendingRole])) ∧
        (restZero d 1 = true → natAt d 0 = 1 ∨ natAt d 0 = 2 →
          exec .setRole s = .next
            (replied { s with pendingRole := some (if natAt d 0 = 1 then .monitor else .active) } f rest .done
              [s.role.code, byteAt d 0])))) ∧
    ∀ (f : Frame) (rest : List Frame) (s : State), Serves s f rest .clearCounters →
      let d := serviceData f
      (restZero d 1 = false → exec .clearCounters s = .next (refusedFormat s f rest)) ∧
      (restZero d 1 = true → 5 < natAt d 0 → natAt d 0 ≠ 255 →
        exec .clearCounters s = .next (replied s f rest .refusedRange [])) ∧
      (∀ l : Lane, restZero d 1 = true → natAt d 0 = l → exec .clearCounters s = .next
        (replied (s.setLane l { s.lane l with counters := Vector.replicate 21 0 }) f rest .done [byteAt d 0])) ∧
      (restZero d 1 = true → natAt d 0 = 255 → ∃ t, exec .clearCounters s = .next (replied t f rest .done [0xFF]) ∧
        t.ring = ⟨0, 0, 0, 0, 0⟩ ∧ (∀ l, t.lane l = { s.lane l with counters := Vector.replicate 21 0 }) ∧
        { t with lanes := s.lanes, ring := s.ring } = s)

/-- R67: SWITCH_BANK with CANCEL removes a pending switch with DONE, or is refused STATE where none is pending; it leaves the active bank
and raises no alarm, and the pending flag of the status is clear after it. An operand with an index, or with more behind it, is refused
FORMAT (R157, R167). That the refusal STATE is answered with the same data as the state stands is the model's reading (assumption 8). -/
def Obligations.SwitchBankCancelRemovesSwitch : Prop :=
  ∀ (f : Frame) (rest : List Frame) (s : State), Serves s f rest .switchBankCancel →
    let bank := if s.active = .A then 0#8 else 1#8
    (restZero (serviceData f) 1 = false → exec .switchBankCancel s = .next (refusedFormat s f rest)) ∧
    (∀ x, restZero (serviceData f) 1 = true → s.pendingSwitch = some x → ∃ t, exec .switchBankCancel s = .next t ∧
      t = replied { s with pendingSwitch := none } f rest .done [bank, 0, 0, 0] ∧ t.statusFlags % 2 = 0) ∧
    (restZero (serviceData f) 1 = true → s.pendingSwitch = none →
      exec .switchBankCancel s = .next (replied s f rest .refusedState [bank, 0, 0, 0]))

/-- R112, R113: SET_ZONE replaces a zone's offset and hold limit and nothing else, so the conversion in flight keeps those it began with;
READ_ZONES answers each zone's items as they stand when it is read, after the conversions that end before that, and changes nothing
itself. The model's: the zones are read in lane order, which R113 leaves open (assumption 23), a SET_ZONE out of range is answered with the zone's items, or with zeros where there is no such zone (assumption 8), and
the conversions that end while the reply is written are an operand of READ_ZONES (assumption 18). -/
def Obligations.ZoneRequests : Prop :=
  [ZoneState.warming, .ready, .holding, .fault].map ZoneState.code = [1, 2, 3, 4] ∧
  (∀ o : Int, -128 < o → o < 128 → (signedByte o).toNat = if o < 0 then 128 + o.natAbs else o.natAbs) ∧
  (∀ (l : Lane) (z : Zone) (s : State), (s.setZone l z).zone l = z ∧ (∀ m, m ≠ l → (s.setZone l z).zone m = s.zone m) ∧
    { s.setZone l z with zones := s.zones } = s) ∧
  ∀ (f : Frame) (rest : List Frame) (s : State),
    let d := serviceData f
    let offset : Int := if natAt d 1 < 128 then (natAt d 1 : Int) else -((natAt d 1 - 128 : Nat) : Int)
    let bytes := fun (t : State) (l : Lane) =>
      [BitVec.ofNat 8 l.val, signedByte (t.zone l).offset, byteOf (t.zone l).limit, (t.zone l).state.code]
        ++ nat16 (t.zone l).z ++ [byteOf (t.zone l).streak]
    (Serves s f rest .setZone →
      (restZero d 3 = false → exec .setZone s = .next (refusedFormat s f rest)) ∧
      (restZero d 3 = true → 5 < natAt d 0 → exec .setZone s = .next (replied s f rest .refusedRange [])) ∧
      ∀ l : Lane, restZero d 3 = true → natAt d 0 = l →
        (7 < offset.natAbs ∨ natAt d 2 = 0 → exec .setZone s = .next (replied s f rest .refusedRange (bytes s l))) ∧
        (offset.natAbs ≤ 7 → natAt d 2 ≠ 0 →
          let t := s.setZone l { s.zone l with offset := offset, limit := natAt d 2 }
          exec .setZone s = .next (replied t f rest .done (bytes t l)))) ∧
    (∀ during : List (List RawCode), Serves s f rest .readZones →
      (restZero d 0 = false → exec (.readZones during) s = .next (refusedFormat s f rest)) ∧
      (restZero d 0 = true → ∃ data,
        let after := fun (n : Nat) =>
          ((List.range n).flatMap (fun j => during.getD j [])).foldl (fun t raw => t.convert raw (fun _ => false)) s
        exec (.readZones during) s = .next (replied (after 6) f rest .done data) ∧ data.length = 42 ∧
          ∀ l : Lane,
            let z := (after (l + 1)).zone l
            (data.drop (7 * l.val)).take 7 =
              [z.state.code] ++ nat16 z.z ++ [byteOf z.streak, byteOf z.history.length, signedByte z.offset, byteOf z.limit]))

/-! ## Lane commands -/

/-- R40, R41: LANE RUN, by lane state: from IDLE it needs the Station Map, the lane's eleven slot uses and an entry VALID in the active
bank; a draining lane resumes, with a new entry or its own; in RUN and FAULT it is refused. A lane whose zone is in FAULT enters FAULT
at once. A malformed operand is refused FORMAT (R167), a lane above 5 RANGE. That a refusal STATE or RANGE is answered with the lane's
summary, and with zeros where there is no such lane, is the model's reading (assumption 8). -/
def Obligations.LaneRunStarts : Prop :=
  (∀ (f : Frame) (rest : List Frame) (s : State), Serves s f rest .laneRun →
    (¬ LaneOperand f true false → exec .laneRun s = .next (refusedFormat s f rest)) ∧
    (LaneOperand f true false → 5 < natAt (serviceData f) 0 →
      exec .laneRun s = .next (replied s f rest .refusedRange []))) ∧
  ∀ (f : Frame) (rest : List Frame) (s : State) (l : Lane), Serves s f rest .laneRun → LaneOperand f true false →
    natAt (serviceData f) 0 = l →
    let n := natAt (serviceData f) 2
    let r := s.lane l
    let ready := s.stations.isSome = true ∧ ∀ kind : Kind, (∃ i : Fin 48, s.slotMap[i] = .command kind l) ∧
      (kind ≠ .stack → ∃ i : Fin 48, s.slotMap[i] = .report kind l)
    let valid := ∃ e : EntryNo, n = e.val ∧ (s.entry s.active e).recipe.isSome = true
    let refused := fun (status : Status) => exec .laneRun s = .next (replied s f rest status (s.laneReply false l))
    let taken := fun (t : State) => exec .laneRun s = .next (replied t f rest .done (t.laneReply false l))
    (r.state = .run ∨ r.state = .fault → refused .refusedState) ∧
    (r.state = .idle → n = 255 → exec .laneRun s = .next (refusedFormat s f rest)) ∧
    (r.state = .idle → n ≠ 255 → ¬ ready → refused .refusedState) ∧
    (r.state = .idle → n ≠ 255 → ready → ¬ valid → refused .refusedRange) ∧
    (∀ e : EntryNo, r.state = .idle → ready → valid → n = e.val → (s.zone l).state ≠ .fault →
      taken (s.setLane l { r with state := .run, assigned := e })) ∧
    (∀ e : EntryNo, r.state = .idle → ready → valid → n = e.val → (s.zone l).state = .fault →
      ∃ t, taken t ∧ (∀ m, m ≠ l → t.lane m = s.lane m) ∧ { t with lanes := s.lanes, stopReason := s.stopReason } = s ∧
        t.lane l = { r with
          state := .fault
          assigned := e
          changeover := none
          alarms := latchedLane r .zoneFault (nat16 (s.zone l).z ++ [byteOf (s.zone l).streak]) }) ∧
    (r.state = .drain → n = 255 → taken (s.setLane l { r with state := .run })) ∧
    (r.state = .drain → n ≠ 255 → ¬ valid → refused .refusedRange) ∧
    (∀ e : EntryNo, r.state = .drain → valid → n = e.val →
      taken (s.setLane l { r with state := .run, assigned := e }))

/-- R40, R42, R44, R48, R127: LANE DRAIN, PURGE and CLEAR, by lane state. A malformed operand is refused FORMAT (R167), a lane above 5
RANGE. R160: the cards a PURGE marks are marked in the state kept for a READ_CARD behind it too, which is the model's choice
(assumption 21). That a refusal STATE is answered with the lane's summary, and RANGE with zeros, is the model's reading (assumption 8). -/
def Obligations.DrainPurgeClear : Prop :=
  (∀ (f : Frame) (rest : List Frame) (s : State) (c : Instr) (r : Request),
    (c, r) ∈ [(Instr.laneDrain, Request.laneDrain), (.lanePurge, .lanePurge), (.laneClear, .laneClear)] → Serves s f rest r →
      (¬ LaneOperand f false false → exec c s = .next (refusedFormat s f rest)) ∧
      (LaneOperand f false false → 5 < natAt (serviceData f) 0 → exec c s = .next (replied s f rest .refusedRange []))) ∧
  ∀ (f : Frame) (rest : List Frame) (s : State) (l : Lane), LaneOperand f false false → natAt (serviceData f) 0 = l →
    let r := s.lane l
    let answer := fun (c : Instr) (t : State) (status : Status) => exec c s = .next (replied t f rest status (t.laneReply false l))
    let mark := fun (c : Card) => if ∃ x ∈ r.web, x.serial = c.serial then c.addReason .lanePurge else c
    (Serves s f rest .laneDrain →
      (r.state = .run → answer .laneDrain (s.setLane l { r with state := .drain }) .done) ∧
      (r.state = .drain ∨ r.state = .idle → answer .laneDrain s .done) ∧
      (r.state = .fault → answer .laneDrain s .refusedState)) ∧
    (Serves s f rest .lanePurge →
      (r.state = .run ∨ r.state = .drain →
        answer .lanePurge { s.setLane l { r with state := .drain, web := r.web.map (Card.addReason .lanePurge) } with
          cardViews := s.cardViews.map (fun v => { v with webs := v.webs.set l (v.webs[l].map mark) }) } .done) ∧
      (r.state = .idle → answer .lanePurge s .done) ∧
      (r.state = .fault → answer .lanePurge s .refusedState)) ∧
    (Serves s f rest .laneClear →
      (r.state = .run ∨ r.state = .drain → answer .laneClear s .refusedState) ∧
      (r.state = .idle → answer .laneClear s .done) ∧
      (r.state = .fault → r.web ≠ [] ∨ s.gateOf l ≠ [] ∨ r.blind ≠ 0 → answer .laneClear s .refusedBusy) ∧
      (r.state = .fault → r.web = [] → s.gateOf l = [] → r.blind = 0 →
        let idle : LaneRec := { r with state := .idle, changeover := none, blindAnswer := false }
        let hold := fun (e : StackEvent) => if r.held = none then some e else r.held
        (∀ b, r.openBatch = some b → b.mode = .fixed → answer .laneClear (s.setLane l idle) .done) ∧
        (∀ b, r.openBatch = some b → b.mode ≠ .fixed →
          answer .laneClear (s.setLane l { idle with
            openBatch := none
            counters := r.counters.set 20 (r.counters[20] + 1)
            held := hold ⟨.closeShort, b.number, b.count⟩ }) .done) ∧
        (r.openBatch = none → (s.entry s.active r.assigned).recipe.map Recipe.closeMode = some .runEndMark →
          answer .laneClear (s.setLane l { idle with held := hold ⟨.closeEmptyEnd, r.lastBatch, 0⟩ }) .done) ∧
        (r.openBatch = none → (s.entry s.active r.assigned).recipe.map Recipe.closeMode ≠ some .runEndMark →
          answer .laneClear (s.setLane l idle) .done)))

/-- R40, R165: the reply to a lane command is the lane number and the lane's summary as it stands after the command, with "replaced" set for
a CHANGEOVER that displaced a pending one alone. R50, R52, R53: LANE CHANGEOVER is scheduled in RUN and DRAIN, in place of one that was pending; FORCE and AUTO_PURGE set and clear
their flags in every lane state and change nothing else. A malformed operand is refused FORMAT (R167), a CHANGEOVER without an entry on any
lane too, and a lane above 5 RANGE. That a refusal STATE or RANGE is answered with the lane's summary, and with zeros where there is no such
lane, is the model's reading (assumption 8). -/
def Obligations.ChangeoverAndFlags : Prop :=
  (∀ (s : State) (replaced : Bool) (l : Lane),
    let b := s.laneReply replaced l
    let r := s.lane l
    b.length = 9 ∧ byteAt b 0 = BitVec.ofNat 8 l.val ∧
      byteAt b 1 = (match r.state with | .idle => 0 | .run => 1 | .drain => 2 | .fault => 3) ∧
      byteAt b 2 = BitVec.ofNat 8 r.assigned.val ∧
      byteAt b 3 = (r.changeover.map (fun ch => BitVec.ofNat 8 ch.entry.val)).getD 0xFF ∧
      word16 b 4 = (r.changeover.map Changeover.index).getD 0 ∧
      (byteAt b 6).getLsbD 0 = r.force ∧ (byteAt b 6).getLsbD 1 = r.autoPurge ∧ (byteAt b 6).getLsbD 2 = replaced ∧
      ((s.gateOf l).length ≤ 3 → natAt b 6 / 8 = 2 * (s.gateOf l).length) ∧
      byteAt b 7 = BitVec.ofNat 8 r.blind ∧ byteAt b 8 = BitVec.ofNat 8 r.web.length) ∧
  (∀ (f : Frame) (rest : List Frame) (s : State) (c : Instr) (r : Request),
    (c, r) ∈ [(Instr.forceOn, Request.forceOn), (.forceOff, .forceOff), (.autoPurgeOn, .autoPurgeOn), (.autoPurgeOff, .autoPurgeOff)] →
    Serves s f rest r →
      (¬ LaneOperand f false false → exec c s = .next (refusedFormat s f rest)) ∧
      (LaneOperand f false false → 5 < natAt (serviceData f) 0 → exec c s = .next (replied s f rest .refusedRange []))) ∧
  (∀ (f : Frame) (rest : List Frame) (s : State), Serves s f rest .laneChangeover →
    (¬ LaneOperand f true true ∨ natAt (serviceData f) 2 = 255 → exec .laneChangeover s = .next (refusedFormat s f rest)) ∧
    (LaneOperand f true true → natAt (serviceData f) 2 ≠ 255 → 5 < natAt (serviceData f) 0 →
      exec .laneChangeover s = .next (replied s f rest .refusedRange []))) ∧
  ∀ (f : Frame) (rest : List Frame) (s : State) (l : Lane), natAt (serviceData f) 0 = l →
    let d := serviceData f
    let r := s.lane l
    let answer := fun (c : Instr) (q : LaneRec) =>
      exec c s = .next (replied (s.setLane l q) f rest .done ((s.setLane l q).laneReply false l))
    (Serves s f rest .laneChangeover → LaneOperand f true true →
      (15 < natAt d 2 → natAt d 2 ≠ 255 →
        exec .laneChangeover s = .next (replied s f rest .refusedRange (s.laneReply false l))) ∧
      ∀ e : EntryNo, natAt d 2 = e.val →
        (r.state = .idle ∨ r.state = .fault →
          exec .laneChangeover s = .next (replied s f rest .refusedState (s.laneReply false l))) ∧
        (r.state = .run ∨ r.state = .drain →
          let t := s.setLane l { r with changeover := some ⟨e, word16 d 3⟩ }
          exec .laneChangeover s = .next (replied t f rest .scheduled (t.laneReply r.changeover.isSome l)))) ∧
    (LaneOperand f false false →
      (Serves s f rest .forceOn → answer .forceOn { r with force := true }) ∧
      (Serves s f rest .forceOff → answer .forceOff { r with force := false }) ∧
      (Serves s f rest .autoPurgeOn → answer .autoPurgeOn { r with autoPurge := true }) ∧
      (Serves s f rest .autoPurgeOff → answer .autoPurgeOff { r with autoPurge := false }))

/-! ## Alarm requests, RESTART, unknown requests -/

/-- R174, R177: READ_ALARMS answers the alarms of its scope as they stand and then clears the latch of every alarm in the scope that is not
active; the stop reason becomes 0 where no stop-enabled latch is left and otherwise stays. R85, R115, R172: STATION_LOST is active while its
condition stands, ZONE_FAULT while the zone is in FAULT and the lane is not IDLE, and an event alarm never. -/
def Obligations.ReadAlarmsClears : Prop :=
  (∀ (s : State) (l : Lane) (i : Fin 7), s.laneActive l i = true ↔ i = 0 ∧ (s.lane l).stationLost = true ∨
    i = 1 ∧ (s.zone l).state = .fault ∧ (s.lane l).state ≠ .idle) ∧
  ∀ (f : Frame) (rest : List Frame) (s : State), Serves s f rest .readAlarms → StopSound s →
    let d := serviceData f
    let n := natAt d 0
    let block := fun (active fixed : Bool) (a : Alarm) =>
      BitVec.ofNat 8 ((if active then 1 else 0) + (if a.latch.isSome then 2 else 0) + (if a.summaryEn then 4 else 0)
        + (if a.stopEn then 8 else 0) + if fixed then 16 else 0) :: padTo 5 (a.latch.getD [])
    (restZero d 1 = false → exec .readAlarms s = .next (refusedFormat s f rest)) ∧
    (restZero d 1 = true → 5 < n → n < 254 → exec .readAlarms s = .next (replied s f rest .refusedRange [])) ∧
    (restZero d 1 = true → n < 6 ∨ 254 ≤ n → ∃ t data, exec .readAlarms s = .next (replied t f rest .done data) ∧
      (∀ l : Lane, n = l → data = byteAt d 0 :: (List.finRange 7).flatMap (fun i : Fin 7 =>
        block (s.laneActive l i) (decide (i = 2 ∨ i = 5)) (s.lane l).alarms[i])) ∧
      (n = 254 → data = 0xFE :: (List.finRange 6).flatMap (fun i : Fin 6 => block false (decide (i = 5)) s.chipAlarms[i])) ∧
      (n = 255 → data.length = 14 ∧ byteAt data 13 = BitVec.ofNat 8 s.stopReason ∧
        (∀ l : Lane, ∀ i : Fin 7, (byteAt data l).getLsbD i = (s.lane l).alarms[i].latch.isSome ∧
          (byteAt data (6 + l)).getLsbD i = s.laneActive l i) ∧
        ∀ i : Fin 6, (byteAt data 12).getLsbD i = s.chipAlarms[i].latch.isSome) ∧
      (∀ l : Lane, { t.lane l with alarms := (s.lane l).alarms } = s.lane l ∧ ∀ i : Fin 7, (t.lane l).alarms[i] =
        if (n = l ∨ n = 255) ∧ s.laneActive l i = false then { (s.lane l).alarms[i] with latch := none }
        else (s.lane l).alarms[i]) ∧
      (∀ i : Fin 6, t.chipAlarms[i] =
        if 254 ≤ n then { s.chipAlarms[i] with latch := none } else s.chipAlarms[i]) ∧
      t.stopReason = (if t.stopPresent = true then s.stopReason else 0) ∧
      { t with lanes := s.lanes, chipAlarms := s.chipAlarms, stopReason := s.stopReason } = s)

/-- R175, R177: SET_ALARM_MASKS replaces the enables of its scope, with the three fixed stop-enables kept on and answered in the fixed byte;
a stop request that the masks make present takes the lowest alarm code among the latched, stop-enabled alarms as its reason. That a scope out
of range with bit 7 set in a mask is refused FORMAT, before RANGE, is the model's reading (assumption 8). -/
def Obligations.SetAlarmMasksReplaces : Prop :=
  ∀ (f : Frame) (rest : List Frame) (s : State), Serves s f rest .setAlarmMasks → StopSound s →
    let d := serviceData f
    let n := natAt d 0
    let limit := if n = 254 then 64 else 128
    let wide := limit ≤ natAt d 1 ∨ limit ≤ natAt d 2
    let fixed : Byte := if n = 254 then 0x20 else 0x24
    (restZero d 3 = false ∨ wide → exec .setAlarmMasks s = .next (refusedFormat s f rest)) ∧
    (restZero d 3 = true → ¬ wide → 5 < n → n < 254 →
      exec .setAlarmMasks s = .next (replied s f rest .refusedRange [])) ∧
    (restZero d 3 = true → ¬ wide → n < 6 ∨ 254 ≤ n → ∃ t,
      exec .setAlarmMasks s = .next (replied t f rest .done
        [byteAt d 0, byteAt d 1, byteAt d 2 ||| fixed, fixed &&& ~~~ byteAt d 2]) ∧
      (∀ l : Lane, { t.lane l with alarms := (s.lane l).alarms } = s.lane l ∧ ∀ i : Fin 7, (t.lane l).alarms[i] =
        if n = l ∨ n = 255 then { (s.lane l).alarms[i] with
          summaryEn := (byteAt d 1).getLsbD i
          stopEn := (byteAt d 2).getLsbD i || decide (i = 2 ∨ i = 5) }
        else (s.lane l).alarms[i]) ∧
      (∀ i : Fin 6, t.chipAlarms[i] =
        if n = 254 then { s.chipAlarms[i] with
          summaryEn := (byteAt d 1).getLsbD i
          stopEn := (byteAt d 2).getLsbD i || decide (i = 5) }
        else s.chipAlarms[i]) ∧
      (t.stopPresent = false → t.stopReason = 0) ∧
      (t.stopPresent = true → s.stopPresent = true → t.stopReason = s.stopReason) ∧
      (t.stopPresent = true → s.stopPresent = false →
        let on := fun (code : Nat) =>
          (∃ l : Lane, ∃ i : Fin 7, (t.lane l).alarms[i].latch.isSome = true ∧ (t.lane l).alarms[i].stopEn = true ∧
            code = i.val + 1) ∨
          ∃ i : Fin 6, t.chipAlarms[i].latch.isSome = true ∧ t.chipAlarms[i].stopEn = true ∧ code = i.val + 8
        on t.stopReason ∧ ∀ code, on code → t.stopReason ≤ code) ∧
      { t with lanes := s.lanes, chipAlarms := s.chipAlarms, stopReason := s.stopReason } = s)

/-- R31, R36, R57, R73, R129, R157, R170, R171, R178: RESTART frees every card, takes every lane to IDLE, and clears the last index, the
timer, the pending switch and every latch; it keeps the tables, the masks, the role, the zones, the serial counter, the production and
Ring Port counters and the frames. An unknown request is refused FORMAT and changes nothing. The request codes, and what a well-formed
operand leaves 0 behind it. The model's readings: RESTART clears the
commands held for repeats (assumption 12), a READ_CARD behind RESTART finds no card in the state kept for it (assumption 21), and an unknown LANE_COMMAND code or SWITCH_BANK kind is an unknown request (assumption 7). -/
def Obligations.RestartAndUnknownRequest : Prop :=
  (∀ f : Frame,
    let code := natAt f 3
    (∀ p ∈ [(0x01, Request.identify), (0x02, .readState), (0x10, .mapSlot), (0x11, .readSlotMap), (0x12, .setStations),
        (0x13, .readStations), (0x14, .loadRecipe), (0x15, .readRecipe), (0x21, .readCard), (0x22, .readCounters),
        (0x23, .clearCounters), (0x30, .readAlarms), (0x31, .setAlarmMasks), (0x40, .setZone), (0x41, .readZones), (0x50, .setRole),
        (0x5F, .restart)], code = p.1 → requestOf f = p.2) ∧
    (code = 0x16 → requestOf f =
      if natAt f 8 = 1 then .switchBank else if natAt f 8 = 2 then .switchBankCancel else .unknown) ∧
    (code = 0x20 → requestOf f = ([Request.unknown, .laneRun, .laneDrain, .lanePurge, .laneClear, .laneChangeover, .forceOn, .forceOff,
      .autoPurgeOn, .autoPurgeOff][natAt f 9]?).getD .unknown) ∧
    (code ∉ [0x01, 0x02, 0x10, 0x11, 0x12, 0x13, 0x14, 0x15, 0x16, 0x20, 0x21, 0x22, 0x23, 0x30, 0x31, 0x40, 0x41, 0x50, 0x5F] →
      requestOf f = .unknown)) ∧
  (∀ (d : List Byte) (n : Nat), restZero d n = true ↔ ∀ j, n ≤ j → byteAt d j = 0) ∧
  ∀ (f : Frame) (rest : List Frame) (s : State),
    (Serves s f rest .unknown → exec .unknownRequest s = .next (refusedFormat s f rest)) ∧
    (Serves s f rest .restart → restZero (serviceData f) 0 = false → exec .restart s = .next (refusedFormat s f rest)) ∧
    (Serves s f rest .restart → restZero (serviceData f) 0 = true →
      ∃ t, exec .restart s = .next (replied t f rest .done []) ∧
        t.free = List.finRange 256 ∧ t.gate = [] ∧ t.pendingSwitch = none ∧ t.lastIndex = none ∧ t.timer = ⟨0, none, false⟩ ∧
        t.stopReason = 0 ∧ t.stopPresent = false ∧
        t.cardViews = s.cardViews.map (fun v => { v with lastIndex := none, webs := Vector.replicate 6 [], gate := [] }) ∧
        (∀ b n, t.entry b n = ⟨(s.entry b n).recipe, 0⟩) ∧
        (∀ i : Fin 6, t.chipAlarms[i] = { s.chipAlarms[i] with latch := none }) ∧
        (∀ l : Lane, { t.lane l with alarms := laneAlarmsReset, counters := Vector.replicate 21 0 } = LaneRec.reset ∧
          (t.lane l).counters = (s.lane l).counters ∧
          ∀ i : Fin 7, (t.lane l).alarms[i] = { (s.lane l).alarms[i] with latch := none }) ∧
        { t with
          free := s.free
          gate := s.gate
          pendingSwitch := s.pendingSwitch
          lastIndex := s.lastIndex
          cardViews := s.cardViews
          timer := s.timer
          stopReason := s.stopReason
          bankA := s.bankA
          bankB := s.bankB
          chipAlarms := s.chipAlarms
          lanes := s.lanes } = s)

/-! ## Invariants -/

/-- R23: every one of the 256 card records is on exactly one of the free list, the six web lists and the gate list, and every step keeps it
so. -/
def Obligations.StepKeepsPool : Prop :=
  ∀ s t : State, PoolSound s → step s = .next t → PoolSound t

/-- R58, R62, R63, R68, R125: every step keeps the reference counts equal to the number of tracked cards that name each entry, VALID
entries in range, entries that tracked cards name VALID, the assigned entry of a lane in RUN or DRAIN VALID in the active bank, and open
batches between 1 card and their size. -/
def Obligations.StepKeepsRecipes : Prop :=
  ∀ s t : State, RefsSound s ∧ RecipesSound s ∧ BatchSound s → step s = .next t →
    RefsSound t ∧ RecipesSound t ∧ BatchSound t

/-- R2, R17, R22, R39, R41, R45, R49, R50, R120, R147: every step keeps web cards with their lane and gate cards with a gate index and a
reason, IDLE lanes empty, changeovers pending in RUN and DRAIN alone, blind windows in FAULT over an empty web, the Station Map in range,
no use mapped twice, and the lanes that are not IDLE mapped. -/
def Obligations.StepKeepsLanes : Prop :=
  ∀ s t : State, ListsSound s ∧ IdleSound s ∧ BlindSound s ∧ StationsSound s ∧ SlotMapSound s → step s = .next t →
    ListsSound t ∧ IdleSound t ∧ BlindSound t ∧ StationsSound t ∧ SlotMapSound t

/-- R3, R4, R25, R26: between frames every card of a lane stands at a position from 0 to e - 1, in the order of the web list and no two at
one position, and a lane's gate entries are younger than the gate window and in order, so that there are at most g of them. -/
def Obligations.StepKeepsWebAndGateWindows : Prop :=
  ∀ s t : State, WebSound s ∧ GateSound s ∧ ListsSound s ∧ IdleSound s ∧ BlindSound s ∧ StationsSound s →
    step s = .next t → WebSound t ∧ GateSound t

/-- R21, R130, R131: every step keeps each lane's rejected counter equal to the sum of its thirteen per-reason counters modulo 2^32, and no
reason twice in a card. -/
def Obligations.StepKeepsRejectedSum : Prop :=
  ∀ s t : State, RejectedSound s ∧ ListsSound s ∧ ReasonsSound s → step s = .next t → RejectedSound t ∧ ReasonsSound t

/-- R172, R175, R177: every step keeps a stop reason exactly while the stop request is present, and the fixed stop-enables on. -/
def Obligations.StepKeepsStopRequest : Prop :=
  ∀ s t : State, StopSound s ∧ FixedSound s → step s = .next t → StopSound t ∧ FixedSound t

/-- R46, R107 to R112, R115: every step keeps each zone's items in range and its history full exactly as its state says, and between frames
a lane that is not IDLE with its zone in FAULT is in FAULT. -/
def Obligations.StepKeepsZones : Prop :=
  ∀ s t : State, ZonesSound s ∧ ZoneFaultSound s → step s = .next t → ZonesSound t ∧ ZoneFaultSound t

/-- R12, R14, R84, R142, R143, R144, R146: every step keeps at most four frames of a length the buffer takes, the states kept for
READ_CARD requests (R33, assumption 21) for frames among them, one for a frame, the bypass drive on exactly
in operation, the role BYPASS exactly without a node address, and the saturating counters and the pitch average in their ranges. -/
def Obligations.StepKeepsPortAndCounts : Prop :=
  ∀ s t : State, BufferSound s ∧ BypassSound s ∧ CountsSound s → step s = .next t →
    BufferSound t ∧ BypassSound t ∧ CountsSound t
end

