-- ==== Sys2Proof/Laws/Bytes.lean ====
section
/-! SUPPORT. Lengths and contents of patched frames, and the frame check of a frame whose CRC was regenerated. -/

namespace Sys2Proof.Machine

@[simp] theorem forced_eq {α : Type} (n : Nat) (k : Nat → α) : forced n k = k n := by cases n <;> rfl

@[simp] theorem length_padTo (n : Nat) (bs : List Byte) : (padTo n bs).length = n := by simp [padTo]; omega

theorem length_patch (f : List Byte) (i : Nat) (bs : List Byte) (h : i + bs.length ≤ f.length) :
    (patch f i bs).length = f.length := by simp [patch]; omega

/-- Outside the bytes written a patched frame reads as before. -/
theorem byteAt_patch_outside (f : List Byte) (i : Nat) (bs : List Byte) (j : Nat) (h : i + bs.length ≤ f.length)
    (hj : j < i ∨ i + bs.length ≤ j) : byteAt (patch f i bs) j = byteAt f j := by
  unfold byteAt patch
  simp only [List.getD_eq_getElem?_getD, List.append_assoc]
  rcases hj with hj | hj
  · rw [List.getElem?_append_left (by simp; omega), List.getElem?_take_of_lt hj]
  · have ht : (f.take i).length = i := by simp; omega
    rw [List.getElem?_append_right (by omega), List.getElem?_append_right (by omega), List.getElem?_drop, ht]
    congr 2
    omega

/-- Inside, it reads the bytes written. -/
theorem byteAt_patch_inside (f : List Byte) (i : Nat) (bs : List Byte) (j : Nat) (h : i + bs.length ≤ f.length)
    (hj : j < bs.length) : byteAt (patch f i bs) (i + j) = byteAt bs j := by
  unfold byteAt patch
  simp only [List.getD_eq_getElem?_getD, List.append_assoc]
  have ht : (f.take i).length = i := by simp; omega
  rw [List.getElem?_append_right (by omega), List.getElem?_append_left (by omega), ht]
  congr 2
  omega

@[simp] theorem length_bytes16 (w : BitVec 16) : (bytes16 w).length = 2 := rfl
@[simp] theorem length_bytes24 (w : BitVec 24) : (bytes24 w).length = 3 := rfl
@[simp] theorem length_bytes32 (w : BitVec 32) : (bytes32 w).length = 4 := rfl
@[simp] theorem length_makeSlot (tag : Byte) (addr : BitVec 6) (p : List Byte) : (makeSlot tag addr p).length = 16 := by
  simp [makeSlot]

/-- The two bytes of a word read back as the word. -/
theorem word16_bytes16 (w : BitVec 16) : word16 (bytes16 w) 0 = w := by
  unfold word16 byteAt bytes16
  simp only [List.getD_cons_zero, List.getD_cons_succ]
  ext i hi
  simp only [BitVec.getElem_append, BitVec.getElem_extractLsb']
  split
  · simp [BitVec.getLsbD_eq_getElem hi]
  · simp only [show 8 + (i - 8) = i by omega, BitVec.getLsbD_eq_getElem hi]

@[simp] theorem length_withCrc (f : Frame) (h : 2 ≤ f.length) : (withCrc f).length = f.length := by
  simp [withCrc, frameBody]; omega

theorem frameBody_withCrc (f : Frame) (h : 2 ≤ f.length) : frameBody (withCrc f) = frameBody f := by
  have hb : (frameBody f).length = f.length - 2 := by simp [frameBody]
  conv_lhs => rw [frameBody, length_withCrc f h]
  unfold withCrc
  rw [List.take_append_of_le_length (by omega), List.take_of_length_le (by omega)]

/-- A frame whose CRC was regenerated passes the frame check (R152, R153). -/
theorem crcGood_withCrc (f : Frame) (h : 2 ≤ f.length) : crcGood (withCrc f) = true := by
  have hb : (frameBody f).length = f.length - 2 := by simp [frameBody]
  unfold crcGood
  rw [frameBody_withCrc f h, length_withCrc f h, decide_eq_true_iff]
  have hw : word16 (withCrc f) (f.length - 2) = word16 (bytes16 (crc16 (frameBody f))) 0 := by
    unfold word16 byteAt withCrc
    simp only [List.getD_eq_getElem?_getD]
    rw [List.getElem?_append_right (by omega), List.getElem?_append_right (by omega)]
    simp [hb]
  rw [hw, word16_bytes16]

/-- Before its last two bytes a frame whose CRC was regenerated reads as before. -/
theorem byteAt_withCrc (f : Frame) (j : Nat) (hj : j < f.length - 2) : byteAt (withCrc f) j = byteAt f j := by
  unfold byteAt withCrc frameBody
  simp only [List.getD_eq_getElem?_getD]
  rw [List.getElem?_append_left (by simp; omega), List.getElem?_take_of_lt hj]

end Sys2Proof.Machine
end

