-- ==== Sys2Proof/Laws/State.lean ====
section
/-! SUPPORT. The small lemmas of the named updates of the state: for each update, what each field reads afterwards. -/

namespace Sys2Proof.Machine

/-! ## Lanes -/

@[simp] theorem State.lane_setLane_self (s : State) (l : Lane) (r : LaneRec) : (s.setLane l r).lane l = r := by
  simp [State.lane, State.setLane]

theorem State.lane_setLane_ne (s : State) {l m : Lane} (r : LaneRec) (h : l ≠ m) : (s.setLane l r).lane m = s.lane m := by
  have h' : (l : Nat) ≠ (m : Nat) := fun e => h (Fin.ext e)
  simp [State.lane, State.setLane, h']

theorem State.lane_setLane (s : State) (l m : Lane) (r : LaneRec) :
    (s.setLane l r).lane m = if l = m then r else s.lane m := by
  split
  · next h => subst h; simp
  · next h => exact s.lane_setLane_ne r h

@[simp] theorem State.lane_updLane_self (s : State) (l : Lane) (f : LaneRec → LaneRec) :
    (s.updLane l f).lane l = f (s.lane l) := by simp [State.updLane]

theorem State.lane_updLane_ne (s : State) {l m : Lane} (f : LaneRec → LaneRec) (h : l ≠ m) :
    (s.updLane l f).lane m = s.lane m := s.lane_setLane_ne _ h

theorem State.lane_updLane (s : State) (l m : Lane) (f : LaneRec → LaneRec) :
    (s.updLane l f).lane m = if l = m then f (s.lane m) else s.lane m := by
  unfold State.updLane
  rw [State.lane_setLane]
  split
  · next h => subst h; rfl
  · rfl

/-- A field of the lane records that an update of one lane keeps reads as before in every lane. -/
theorem State.lane_updLane_proj {α : Type} (p : LaneRec → α) (s : State) (l m : Lane) (f : LaneRec → LaneRec)
    (h : ∀ r, p (f r) = p r) : p ((s.updLane l f).lane m) = p (s.lane m) := by
  rw [State.lane_updLane]
  split
  · exact h _
  · rfl

@[simp] theorem State.setLane_power (s : State) (l : Lane) (r : LaneRec) : (s.setLane l r).power = s.power := rfl
@[simp] theorem State.setLane_bypdrv (s : State) (l : Lane) (r : LaneRec) : (s.setLane l r).bypdrv = s.bypdrv := rfl
@[simp] theorem State.setLane_nodeAddr (s : State) (l : Lane) (r : LaneRec) : (s.setLane l r).nodeAddr = s.nodeAddr := rfl
@[simp] theorem State.setLane_role (s : State) (l : Lane) (r : LaneRec) : (s.setLane l r).role = s.role := rfl
@[simp] theorem State.setLane_pendingRole (s : State) (l : Lane) (r : LaneRec) : (s.setLane l r).pendingRole = s.pendingRole := rfl
@[simp] theorem State.setLane_buffer (s : State) (l : Lane) (r : LaneRec) : (s.setLane l r).buffer = s.buffer := rfl
@[simp] theorem State.setLane_phase (s : State) (l : Lane) (r : LaneRec) : (s.setLane l r).phase = s.phase := rfl
@[simp] theorem State.setLane_cardViews (s : State) (l : Lane) (r : LaneRec) : (s.setLane l r).cardViews = s.cardViews := rfl
@[simp] theorem State.setLane_ringOut (s : State) (l : Lane) (r : LaneRec) : (s.setLane l r).ringOut = s.ringOut := rfl
@[simp] theorem State.setLane_lastIndex (s : State) (l : Lane) (r : LaneRec) : (s.setLane l r).lastIndex = s.lastIndex := rfl
@[simp] theorem State.setLane_ring (s : State) (l : Lane) (r : LaneRec) : (s.setLane l r).ring = s.ring := rfl
@[simp] theorem State.setLane_slotMap (s : State) (l : Lane) (r : LaneRec) : (s.setLane l r).slotMap = s.slotMap := rfl
@[simp] theorem State.setLane_stations (s : State) (l : Lane) (r : LaneRec) : (s.setLane l r).stations = s.stations := rfl
@[simp] theorem State.setLane_timer (s : State) (l : Lane) (r : LaneRec) : (s.setLane l r).timer = s.timer := rfl
@[simp] theorem State.setLane_free (s : State) (l : Lane) (r : LaneRec) : (s.setLane l r).free = s.free := rfl
@[simp] theorem State.setLane_gate (s : State) (l : Lane) (r : LaneRec) : (s.setLane l r).gate = s.gate := rfl
@[simp] theorem State.setLane_serial (s : State) (l : Lane) (r : LaneRec) : (s.setLane l r).serial = s.serial := rfl
@[simp] theorem State.setLane_bankA (s : State) (l : Lane) (r : LaneRec) : (s.setLane l r).bankA = s.bankA := rfl
@[simp] theorem State.setLane_bankB (s : State) (l : Lane) (r : LaneRec) : (s.setLane l r).bankB = s.bankB := rfl
@[simp] theorem State.setLane_active (s : State) (l : Lane) (r : LaneRec) : (s.setLane l r).active = s.active := rfl
@[simp] theorem State.setLane_pendingSwitch (s : State) (l : Lane) (r : LaneRec) : (s.setLane l r).pendingSwitch = s.pendingSwitch := rfl
@[simp] theorem State.setLane_zones (s : State) (l : Lane) (r : LaneRec) : (s.setLane l r).zones = s.zones := rfl
@[simp] theorem State.setLane_conv (s : State) (l : Lane) (r : LaneRec) : (s.setLane l r).conv = s.conv := rfl
@[simp] theorem State.setLane_chipAlarms (s : State) (l : Lane) (r : LaneRec) : (s.setLane l r).chipAlarms = s.chipAlarms := rfl
@[simp] theorem State.setLane_stopReason (s : State) (l : Lane) (r : LaneRec) : (s.setLane l r).stopReason = s.stopReason := rfl
@[simp] theorem State.setLane_pending (s : State) (l : Lane) (r : LaneRec) : (s.setLane l r).pending = s.pending := rfl
@[simp] theorem State.updLane_power (s : State) (l : Lane) (f : LaneRec → LaneRec) : (s.updLane l f).power = s.power := rfl
@[simp] theorem State.updLane_bypdrv (s : State) (l : Lane) (f : LaneRec → LaneRec) : (s.updLane l f).bypdrv = s.bypdrv := rfl
@[simp] theorem State.updLane_nodeAddr (s : State) (l : Lane) (f : LaneRec → LaneRec) : (s.updLane l f).nodeAddr = s.nodeAddr := rfl
@[simp] theorem State.updLane_role (s : State) (l : Lane) (f : LaneRec → LaneRec) : (s.updLane l f).role = s.role := rfl
@[simp] theorem State.updLane_pendingRole (s : State) (l : Lane) (f : LaneRec → LaneRec) : (s.updLane l f).pendingRole = s.pendingRole := rfl
@[simp] theorem State.updLane_buffer (s : State) (l : Lane) (f : LaneRec → LaneRec) : (s.updLane l f).buffer = s.buffer := rfl
@[simp] theorem State.updLane_phase (s : State) (l : Lane) (f : LaneRec → LaneRec) : (s.updLane l f).phase = s.phase := rfl
@[simp] theorem State.updLane_cardViews (s : State) (l : Lane) (f : LaneRec → LaneRec) : (s.updLane l f).cardViews = s.cardViews := rfl
@[simp] theorem State.updLane_ringOut (s : State) (l : Lane) (f : LaneRec → LaneRec) : (s.updLane l f).ringOut = s.ringOut := rfl
@[simp] theorem State.updLane_lastIndex (s : State) (l : Lane) (f : LaneRec → LaneRec) : (s.updLane l f).lastIndex = s.lastIndex := rfl
@[simp] theorem State.updLane_ring (s : State) (l : Lane) (f : LaneRec → LaneRec) : (s.updLane l f).ring = s.ring := rfl
@[simp] theorem State.updLane_slotMap (s : State) (l : Lane) (f : LaneRec → LaneRec) : (s.updLane l f).slotMap = s.slotMap := rfl
@[simp] theorem State.updLane_stations (s : State) (l : Lane) (f : LaneRec → LaneRec) : (s.updLane l f).stations = s.stations := rfl
@[simp] theorem State.updLane_timer (s : State) (l : Lane) (f : LaneRec → LaneRec) : (s.updLane l f).timer = s.timer := rfl
@[simp] theorem State.updLane_free (s : State) (l : Lane) (f : LaneRec → LaneRec) : (s.updLane l f).free = s.free := rfl
@[simp] theorem State.updLane_gate (s : State) (l : Lane) (f : LaneRec → LaneRec) : (s.updLane l f).gate = s.gate := rfl
@[simp] theorem State.updLane_serial (s : State) (l : Lane) (f : LaneRec → LaneRec) : (s.updLane l f).serial = s.serial := rfl
@[simp] theorem State.updLane_bankA (s : State) (l : Lane) (f : LaneRec → LaneRec) : (s.updLane l f).bankA = s.bankA := rfl
@[simp] theorem State.updLane_bankB (s : State) (l : Lane) (f : LaneRec → LaneRec) : (s.updLane l f).bankB = s.bankB := rfl
@[simp] theorem State.updLane_active (s : State) (l : Lane) (f : LaneRec → LaneRec) : (s.updLane l f).active = s.active := rfl
@[simp] theorem State.updLane_pendingSwitch (s : State) (l : Lane) (f : LaneRec → LaneRec) : (s.updLane l f).pendingSwitch = s.pendingSwitch := rfl
@[simp] theorem State.updLane_zones (s : State) (l : Lane) (f : LaneRec → LaneRec) : (s.updLane l f).zones = s.zones := rfl
@[simp] theorem State.updLane_conv (s : State) (l : Lane) (f : LaneRec → LaneRec) : (s.updLane l f).conv = s.conv := rfl
@[simp] theorem State.updLane_chipAlarms (s : State) (l : Lane) (f : LaneRec → LaneRec) : (s.updLane l f).chipAlarms = s.chipAlarms := rfl
@[simp] theorem State.updLane_stopReason (s : State) (l : Lane) (f : LaneRec → LaneRec) : (s.updLane l f).stopReason = s.stopReason := rfl
@[simp] theorem State.updLane_pending (s : State) (l : Lane) (f : LaneRec → LaneRec) : (s.updLane l f).pending = s.pending := rfl
@[simp] theorem State.mapWeb_power (s : State) (l : Lane) (f : Card → Card) : (s.mapWeb l f).power = s.power := rfl
@[simp] theorem State.mapWeb_bypdrv (s : State) (l : Lane) (f : Card → Card) : (s.mapWeb l f).bypdrv = s.bypdrv := rfl
@[simp] theorem State.mapWeb_nodeAddr (s : State) (l : Lane) (f : Card → Card) : (s.mapWeb l f).nodeAddr = s.nodeAddr := rfl
@[simp] theorem State.mapWeb_role (s : State) (l : Lane) (f : Card → Card) : (s.mapWeb l f).role = s.role := rfl
@[simp] theorem State.mapWeb_pendingRole (s : State) (l : Lane) (f : Card → Card) : (s.mapWeb l f).pendingRole = s.pendingRole := rfl
@[simp] theorem State.mapWeb_buffer (s : State) (l : Lane) (f : Card → Card) : (s.mapWeb l f).buffer = s.buffer := rfl
@[simp] theorem State.mapWeb_phase (s : State) (l : Lane) (f : Card → Card) : (s.mapWeb l f).phase = s.phase := rfl
@[simp] theorem State.mapWeb_cardViews (s : State) (l : Lane) (f : Card → Card) : (s.mapWeb l f).cardViews = s.cardViews := rfl
@[simp] theorem State.mapWeb_ringOut (s : State) (l : Lane) (f : Card → Card) : (s.mapWeb l f).ringOut = s.ringOut := rfl
@[simp] theorem State.mapWeb_lastIndex (s : State) (l : Lane) (f : Card → Card) : (s.mapWeb l f).lastIndex = s.lastIndex := rfl
@[simp] theorem State.mapWeb_ring (s : State) (l : Lane) (f : Card → Card) : (s.mapWeb l f).ring = s.ring := rfl
@[simp] theorem State.mapWeb_slotMap (s : State) (l : Lane) (f : Card → Card) : (s.mapWeb l f).slotMap = s.slotMap := rfl
@[simp] theorem State.mapWeb_stations (s : State) (l : Lane) (f : Card → Card) : (s.mapWeb l f).stations = s.stations := rfl
@[simp] theorem State.mapWeb_timer (s : State) (l : Lane) (f : Card → Card) : (s.mapWeb l f).timer = s.timer := rfl
@[simp] theorem State.mapWeb_free (s : State) (l : Lane) (f : Card → Card) : (s.mapWeb l f).free = s.free := rfl
@[simp] theorem State.mapWeb_gate (s : State) (l : Lane) (f : Card → Card) : (s.mapWeb l f).gate = s.gate := rfl
@[simp] theorem State.mapWeb_serial (s : State) (l : Lane) (f : Card → Card) : (s.mapWeb l f).serial = s.serial := rfl
@[simp] theorem State.mapWeb_bankA (s : State) (l : Lane) (f : Card → Card) : (s.mapWeb l f).bankA = s.bankA := rfl
@[simp] theorem State.mapWeb_bankB (s : State) (l : Lane) (f : Card → Card) : (s.mapWeb l f).bankB = s.bankB := rfl
@[simp] theorem State.mapWeb_active (s : State) (l : Lane) (f : Card → Card) : (s.mapWeb l f).active = s.active := rfl
@[simp] theorem State.mapWeb_pendingSwitch (s : State) (l : Lane) (f : Card → Card) : (s.mapWeb l f).pendingSwitch = s.pendingSwitch := rfl
@[simp] theorem State.mapWeb_zones (s : State) (l : Lane) (f : Card → Card) : (s.mapWeb l f).zones = s.zones := rfl
@[simp] theorem State.mapWeb_conv (s : State) (l : Lane) (f : Card → Card) : (s.mapWeb l f).conv = s.conv := rfl
@[simp] theorem State.mapWeb_chipAlarms (s : State) (l : Lane) (f : Card → Card) : (s.mapWeb l f).chipAlarms = s.chipAlarms := rfl
@[simp] theorem State.mapWeb_stopReason (s : State) (l : Lane) (f : Card → Card) : (s.mapWeb l f).stopReason = s.stopReason := rfl
@[simp] theorem State.mapWeb_pending (s : State) (l : Lane) (f : Card → Card) : (s.mapWeb l f).pending = s.pending := rfl
@[simp] theorem State.updCard_power (s : State) (l : Lane) (i : Index) (f : Card → Card) : (s.updCard l i f).power = s.power := rfl
@[simp] theorem State.updCard_bypdrv (s : State) (l : Lane) (i : Index) (f : Card → Card) : (s.updCard l i f).bypdrv = s.bypdrv := rfl
@[simp] theorem State.updCard_nodeAddr (s : State) (l : Lane) (i : Index) (f : Card → Card) : (s.updCard l i f).nodeAddr = s.nodeAddr := rfl
@[simp] theorem State.updCard_role (s : State) (l : Lane) (i : Index) (f : Card → Card) : (s.updCard l i f).role = s.role := rfl
@[simp] theorem State.updCard_pendingRole (s : State) (l : Lane) (i : Index) (f : Card → Card) : (s.updCard l i f).pendingRole = s.pendingRole := rfl
@[simp] theorem State.updCard_buffer (s : State) (l : Lane) (i : Index) (f : Card → Card) : (s.updCard l i f).buffer = s.buffer := rfl
@[simp] theorem State.updCard_phase (s : State) (l : Lane) (i : Index) (f : Card → Card) : (s.updCard l i f).phase = s.phase := rfl
@[simp] theorem State.updCard_cardViews (s : State) (l : Lane) (i : Index) (f : Card → Card) : (s.updCard l i f).cardViews = s.cardViews := rfl
@[simp] theorem State.updCard_ringOut (s : State) (l : Lane) (i : Index) (f : Card → Card) : (s.updCard l i f).ringOut = s.ringOut := rfl
@[simp] theorem State.updCard_lastIndex (s : State) (l : Lane) (i : Index) (f : Card → Card) : (s.updCard l i f).lastIndex = s.lastIndex := rfl
@[simp] theorem State.updCard_ring (s : State) (l : Lane) (i : Index) (f : Card → Card) : (s.updCard l i f).ring = s.ring := rfl
@[simp] theorem State.updCard_slotMap (s : State) (l : Lane) (i : Index) (f : Card → Card) : (s.updCard l i f).slotMap = s.slotMap := rfl
@[simp] theorem State.updCard_stations (s : State) (l : Lane) (i : Index) (f : Card → Card) : (s.updCard l i f).stations = s.stations := rfl
@[simp] theorem State.updCard_timer (s : State) (l : Lane) (i : Index) (f : Card → Card) : (s.updCard l i f).timer = s.timer := rfl
@[simp] theorem State.updCard_free (s : State) (l : Lane) (i : Index) (f : Card → Card) : (s.updCard l i f).free = s.free := rfl
@[simp] theorem State.updCard_gate (s : State) (l : Lane) (i : Index) (f : Card → Card) : (s.updCard l i f).gate = s.gate := rfl
@[simp] theorem State.updCard_serial (s : State) (l : Lane) (i : Index) (f : Card → Card) : (s.updCard l i f).serial = s.serial := rfl
@[simp] theorem State.updCard_bankA (s : State) (l : Lane) (i : Index) (f : Card → Card) : (s.updCard l i f).bankA = s.bankA := rfl
@[simp] theorem State.updCard_bankB (s : State) (l : Lane) (i : Index) (f : Card → Card) : (s.updCard l i f).bankB = s.bankB := rfl
@[simp] theorem State.updCard_active (s : State) (l : Lane) (i : Index) (f : Card → Card) : (s.updCard l i f).active = s.active := rfl
@[simp] theorem State.updCard_pendingSwitch (s : State) (l : Lane) (i : Index) (f : Card → Card) : (s.updCard l i f).pendingSwitch = s.pendingSwitch := rfl
@[simp] theorem State.updCard_zones (s : State) (l : Lane) (i : Index) (f : Card → Card) : (s.updCard l i f).zones = s.zones := rfl
@[simp] theorem State.updCard_conv (s : State) (l : Lane) (i : Index) (f : Card → Card) : (s.updCard l i f).conv = s.conv := rfl
@[simp] theorem State.updCard_chipAlarms (s : State) (l : Lane) (i : Index) (f : Card → Card) : (s.updCard l i f).chipAlarms = s.chipAlarms := rfl
@[simp] theorem State.updCard_stopReason (s : State) (l : Lane) (i : Index) (f : Card → Card) : (s.updCard l i f).stopReason = s.stopReason := rfl
@[simp] theorem State.updCard_pending (s : State) (l : Lane) (i : Index) (f : Card → Card) : (s.updCard l i f).pending = s.pending := rfl

/-! ## Kept views -/

@[simp] theorem State.eachView_cardViews (s : State) (f : CardView → CardView) : (s.eachView f).cardViews = s.cardViews.map f := rfl
@[simp] theorem State.lane_eachView (s : State) (f : CardView → CardView) (l : Lane) : (s.eachView f).lane l = s.lane l := rfl
@[simp] theorem State.eachView_power (s : State) (f : CardView → CardView) : (s.eachView f).power = s.power := rfl
@[simp] theorem State.eachView_bypdrv (s : State) (f : CardView → CardView) : (s.eachView f).bypdrv = s.bypdrv := rfl
@[simp] theorem State.eachView_nodeAddr (s : State) (f : CardView → CardView) : (s.eachView f).nodeAddr = s.nodeAddr := rfl
@[simp] theorem State.eachView_role (s : State) (f : CardView → CardView) : (s.eachView f).role = s.role := rfl
@[simp] theorem State.eachView_pendingRole (s : State) (f : CardView → CardView) : (s.eachView f).pendingRole = s.pendingRole := rfl
@[simp] theorem State.eachView_buffer (s : State) (f : CardView → CardView) : (s.eachView f).buffer = s.buffer := rfl
@[simp] theorem State.eachView_phase (s : State) (f : CardView → CardView) : (s.eachView f).phase = s.phase := rfl
@[simp] theorem State.eachView_ringOut (s : State) (f : CardView → CardView) : (s.eachView f).ringOut = s.ringOut := rfl
@[simp] theorem State.eachView_lastIndex (s : State) (f : CardView → CardView) : (s.eachView f).lastIndex = s.lastIndex := rfl
@[simp] theorem State.eachView_ring (s : State) (f : CardView → CardView) : (s.eachView f).ring = s.ring := rfl
@[simp] theorem State.eachView_slotMap (s : State) (f : CardView → CardView) : (s.eachView f).slotMap = s.slotMap := rfl
@[simp] theorem State.eachView_stations (s : State) (f : CardView → CardView) : (s.eachView f).stations = s.stations := rfl
@[simp] theorem State.eachView_timer (s : State) (f : CardView → CardView) : (s.eachView f).timer = s.timer := rfl
@[simp] theorem State.eachView_free (s : State) (f : CardView → CardView) : (s.eachView f).free = s.free := rfl
@[simp] theorem State.eachView_gate (s : State) (f : CardView → CardView) : (s.eachView f).gate = s.gate := rfl
@[simp] theorem State.eachView_serial (s : State) (f : CardView → CardView) : (s.eachView f).serial = s.serial := rfl
@[simp] theorem State.eachView_lanes (s : State) (f : CardView → CardView) : (s.eachView f).lanes = s.lanes := rfl
@[simp] theorem State.eachView_bankA (s : State) (f : CardView → CardView) : (s.eachView f).bankA = s.bankA := rfl
@[simp] theorem State.eachView_bankB (s : State) (f : CardView → CardView) : (s.eachView f).bankB = s.bankB := rfl
@[simp] theorem State.eachView_active (s : State) (f : CardView → CardView) : (s.eachView f).active = s.active := rfl
@[simp] theorem State.eachView_pendingSwitch (s : State) (f : CardView → CardView) : (s.eachView f).pendingSwitch = s.pendingSwitch := rfl
@[simp] theorem State.eachView_zones (s : State) (f : CardView → CardView) : (s.eachView f).zones = s.zones := rfl
@[simp] theorem State.eachView_chipAlarms (s : State) (f : CardView → CardView) : (s.eachView f).chipAlarms = s.chipAlarms := rfl
@[simp] theorem State.eachView_stopReason (s : State) (f : CardView → CardView) : (s.eachView f).stopReason = s.stopReason := rfl
@[simp] theorem State.eachView_pending (s : State) (f : CardView → CardView) : (s.eachView f).pending = s.pending := rfl
@[simp] theorem State.eachView_conv (s : State) (f : CardView → CardView) : (s.eachView f).conv = s.conv := rfl

/-! ## Zones -/

@[simp] theorem State.zone_setZone_self (s : State) (l : Lane) (z : Zone) : (s.setZone l z).zone l = z := by
  simp [State.zone, State.setZone]

theorem State.zone_setZone_ne (s : State) {l m : Lane} (z : Zone) (h : l ≠ m) : (s.setZone l z).zone m = s.zone m := by
  have h' : (l : Nat) ≠ (m : Nat) := fun e => h (Fin.ext e)
  simp [State.zone, State.setZone, h']

@[simp] theorem State.lane_setZone (s : State) (l m : Lane) (z : Zone) : (s.setZone l z).lane m = s.lane m := rfl
@[simp] theorem State.zone_setLane (s : State) (l m : Lane) (r : LaneRec) : (s.setLane l r).zone m = s.zone m := rfl
@[simp] theorem State.zone_updLane (s : State) (l m : Lane) (f : LaneRec → LaneRec) : (s.updLane l f).zone m = s.zone m := rfl

@[simp] theorem State.setZone_power (s : State) (l : Lane) (z : Zone) : (s.setZone l z).power = s.power := rfl
@[simp] theorem State.setZone_bypdrv (s : State) (l : Lane) (z : Zone) : (s.setZone l z).bypdrv = s.bypdrv := rfl
@[simp] theorem State.setZone_nodeAddr (s : State) (l : Lane) (z : Zone) : (s.setZone l z).nodeAddr = s.nodeAddr := rfl
@[simp] theorem State.setZone_role (s : State) (l : Lane) (z : Zone) : (s.setZone l z).role = s.role := rfl
@[simp] theorem State.setZone_pendingRole (s : State) (l : Lane) (z : Zone) : (s.setZone l z).pendingRole = s.pendingRole := rfl
@[simp] theorem State.setZone_buffer (s : State) (l : Lane) (z : Zone) : (s.setZone l z).buffer = s.buffer := rfl
@[simp] theorem State.setZone_phase (s : State) (l : Lane) (z : Zone) : (s.setZone l z).phase = s.phase := rfl
@[simp] theorem State.setZone_cardViews (s : State) (l : Lane) (z : Zone) : (s.setZone l z).cardViews = s.cardViews := rfl
@[simp] theorem State.setZone_ringOut (s : State) (l : Lane) (z : Zone) : (s.setZone l z).ringOut = s.ringOut := rfl
@[simp] theorem State.setZone_lastIndex (s : State) (l : Lane) (z : Zone) : (s.setZone l z).lastIndex = s.lastIndex := rfl
@[simp] theorem State.setZone_ring (s : State) (l : Lane) (z : Zone) : (s.setZone l z).ring = s.ring := rfl
@[simp] theorem State.setZone_slotMap (s : State) (l : Lane) (z : Zone) : (s.setZone l z).slotMap = s.slotMap := rfl
@[simp] theorem State.setZone_stations (s : State) (l : Lane) (z : Zone) : (s.setZone l z).stations = s.stations := rfl
@[simp] theorem State.setZone_timer (s : State) (l : Lane) (z : Zone) : (s.setZone l z).timer = s.timer := rfl
@[simp] theorem State.setZone_free (s : State) (l : Lane) (z : Zone) : (s.setZone l z).free = s.free := rfl
@[simp] theorem State.setZone_gate (s : State) (l : Lane) (z : Zone) : (s.setZone l z).gate = s.gate := rfl
@[simp] theorem State.setZone_serial (s : State) (l : Lane) (z : Zone) : (s.setZone l z).serial = s.serial := rfl
@[simp] theorem State.setZone_lanes (s : State) (l : Lane) (z : Zone) : (s.setZone l z).lanes = s.lanes := rfl
@[simp] theorem State.setZone_bankA (s : State) (l : Lane) (z : Zone) : (s.setZone l z).bankA = s.bankA := rfl
@[simp] theorem State.setZone_bankB (s : State) (l : Lane) (z : Zone) : (s.setZone l z).bankB = s.bankB := rfl
@[simp] theorem State.setZone_active (s : State) (l : Lane) (z : Zone) : (s.setZone l z).active = s.active := rfl
@[simp] theorem State.setZone_pendingSwitch (s : State) (l : Lane) (z : Zone) : (s.setZone l z).pendingSwitch = s.pendingSwitch := rfl
@[simp] theorem State.setZone_conv (s : State) (l : Lane) (z : Zone) : (s.setZone l z).conv = s.conv := rfl
@[simp] theorem State.setZone_chipAlarms (s : State) (l : Lane) (z : Zone) : (s.setZone l z).chipAlarms = s.chipAlarms := rfl
@[simp] theorem State.setZone_stopReason (s : State) (l : Lane) (z : Zone) : (s.setZone l z).stopReason = s.stopReason := rfl
@[simp] theorem State.setZone_pending (s : State) (l : Lane) (z : Zone) : (s.setZone l z).pending = s.pending := rfl
@[simp] theorem State.beginConversion_power (s : State) (l : Lane) : (s.beginConversion l).power = s.power := rfl
@[simp] theorem State.beginConversion_bypdrv (s : State) (l : Lane) : (s.beginConversion l).bypdrv = s.bypdrv := rfl
@[simp] theorem State.beginConversion_nodeAddr (s : State) (l : Lane) : (s.beginConversion l).nodeAddr = s.nodeAddr := rfl
@[simp] theorem State.beginConversion_role (s : State) (l : Lane) : (s.beginConversion l).role = s.role := rfl
@[simp] theorem State.beginConversion_pendingRole (s : State) (l : Lane) : (s.beginConversion l).pendingRole = s.pendingRole := rfl
@[simp] theorem State.beginConversion_buffer (s : State) (l : Lane) : (s.beginConversion l).buffer = s.buffer := rfl
@[simp] theorem State.beginConversion_phase (s : State) (l : Lane) : (s.beginConversion l).phase = s.phase := rfl
@[simp] theorem State.beginConversion_cardViews (s : State) (l : Lane) : (s.beginConversion l).cardViews = s.cardViews := rfl
@[simp] theorem State.beginConversion_ringOut (s : State) (l : Lane) : (s.beginConversion l).ringOut = s.ringOut := rfl
@[simp] theorem State.beginConversion_lastIndex (s : State) (l : Lane) : (s.beginConversion l).lastIndex = s.lastIndex := rfl
@[simp] theorem State.beginConversion_ring (s : State) (l : Lane) : (s.beginConversion l).ring = s.ring := rfl
@[simp] theorem State.beginConversion_slotMap (s : State) (l : Lane) : (s.beginConversion l).slotMap = s.slotMap := rfl
@[simp] theorem State.beginConversion_stations (s : State) (l : Lane) : (s.beginConversion l).stations = s.stations := rfl
@[simp] theorem State.beginConversion_timer (s : State) (l : Lane) : (s.beginConversion l).timer = s.timer := rfl
@[simp] theorem State.beginConversion_free (s : State) (l : Lane) : (s.beginConversion l).free = s.free := rfl
@[simp] theorem State.beginConversion_gate (s : State) (l : Lane) : (s.beginConversion l).gate = s.gate := rfl
@[simp] theorem State.beginConversion_serial (s : State) (l : Lane) : (s.beginConversion l).serial = s.serial := rfl
@[simp] theorem State.beginConversion_lanes (s : State) (l : Lane) : (s.beginConversion l).lanes = s.lanes := rfl
@[simp] theorem State.beginConversion_bankA (s : State) (l : Lane) : (s.beginConversion l).bankA = s.bankA := rfl
@[simp] theorem State.beginConversion_bankB (s : State) (l : Lane) : (s.beginConversion l).bankB = s.bankB := rfl
@[simp] theorem State.beginConversion_active (s : State) (l : Lane) : (s.beginConversion l).active = s.active := rfl
@[simp] theorem State.beginConversion_pendingSwitch (s : State) (l : Lane) : (s.beginConversion l).pendingSwitch = s.pendingSwitch := rfl
@[simp] theorem State.beginConversion_zones (s : State) (l : Lane) : (s.beginConversion l).zones = s.zones := rfl
@[simp] theorem State.beginConversion_chipAlarms (s : State) (l : Lane) : (s.beginConversion l).chipAlarms = s.chipAlarms := rfl
@[simp] theorem State.beginConversion_stopReason (s : State) (l : Lane) : (s.beginConversion l).stopReason = s.stopReason := rfl
@[simp] theorem State.beginConversion_pending (s : State) (l : Lane) : (s.beginConversion l).pending = s.pending := rfl

/-! ## Recipe entries -/

@[simp] theorem State.entry_setEntry_self (s : State) (b : Bank) (n : EntryNo) (e : Entry) : (s.setEntry b n e).entry b n = e := by
  cases b <;> simp [State.entry, State.setEntry]

theorem State.entry_setEntry_ne (s : State) {b c : Bank} {n m : EntryNo} (e : Entry) (h : b ≠ c ∨ n ≠ m) :
    (s.setEntry b n e).entry c m = s.entry c m := by
  have h' : b ≠ c ∨ (n : Nat) ≠ (m : Nat) := h.imp id (fun g e => g (Fin.ext e))
  cases b <;> cases c <;> simp_all [State.entry, State.setEntry]

theorem State.entry_setEntry (s : State) (b c : Bank) (n m : EntryNo) (e : Entry) :
    (s.setEntry b n e).entry c m = if b = c ∧ n = m then e else s.entry c m := by
  split
  · next h => obtain ⟨rfl, rfl⟩ := h; simp
  · next h => exact s.entry_setEntry_ne e (by tauto)

theorem State.entry_updRefs (s : State) (b c : Bank) (n m : EntryNo) (f : Nat → Nat) :
    (s.updRefs b n f).entry c m = if b = c ∧ n = m then { s.entry c m with refs := f (s.entry c m).refs } else s.entry c m := by
  unfold State.updRefs
  rw [State.entry_setEntry]
  split
  · next h => obtain ⟨rfl, rfl⟩ := h; rfl
  · rfl

@[simp] theorem State.lane_setEntry (s : State) (b : Bank) (n : EntryNo) (e : Entry) (m : Lane) :
    (s.setEntry b n e).lane m = s.lane m := by cases b <;> rfl
@[simp] theorem State.lane_updRefs (s : State) (b : Bank) (n : EntryNo) (f : Nat → Nat) (m : Lane) :
    (s.updRefs b n f).lane m = s.lane m := by cases b <;> rfl
@[simp] theorem State.entry_setLane (s : State) (l : Lane) (r : LaneRec) (b : Bank) (n : EntryNo) :
    (s.setLane l r).entry b n = s.entry b n := by cases b <;> rfl
@[simp] theorem State.entry_updLane (s : State) (l : Lane) (f : LaneRec → LaneRec) (b : Bank) (n : EntryNo) :
    (s.updLane l f).entry b n = s.entry b n := by cases b <;> rfl

@[simp] theorem State.setEntry_power (s : State) (b : Bank) (n : EntryNo) (e : Entry) : (s.setEntry b n e).power = s.power := by cases b <;> rfl
@[simp] theorem State.setEntry_bypdrv (s : State) (b : Bank) (n : EntryNo) (e : Entry) : (s.setEntry b n e).bypdrv = s.bypdrv := by cases b <;> rfl
@[simp] theorem State.setEntry_nodeAddr (s : State) (b : Bank) (n : EntryNo) (e : Entry) : (s.setEntry b n e).nodeAddr = s.nodeAddr := by cases b <;> rfl
@[simp] theorem State.setEntry_role (s : State) (b : Bank) (n : EntryNo) (e : Entry) : (s.setEntry b n e).role = s.role := by cases b <;> rfl
@[simp] theorem State.setEntry_pendingRole (s : State) (b : Bank) (n : EntryNo) (e : Entry) : (s.setEntry b n e).pendingRole = s.pendingRole := by cases b <;> rfl
@[simp] theorem State.setEntry_buffer (s : State) (b : Bank) (n : EntryNo) (e : Entry) : (s.setEntry b n e).buffer = s.buffer := by cases b <;> rfl
@[simp] theorem State.setEntry_phase (s : State) (b : Bank) (n : EntryNo) (e : Entry) : (s.setEntry b n e).phase = s.phase := by cases b <;> rfl
@[simp] theorem State.setEntry_cardViews (s : State) (b : Bank) (n : EntryNo) (e : Entry) : (s.setEntry b n e).cardViews = s.cardViews := by cases b <;> rfl
@[simp] theorem State.setEntry_ringOut (s : State) (b : Bank) (n : EntryNo) (e : Entry) : (s.setEntry b n e).ringOut = s.ringOut := by cases b <;> rfl
@[simp] theorem State.setEntry_lastIndex (s : State) (b : Bank) (n : EntryNo) (e : Entry) : (s.setEntry b n e).lastIndex = s.lastIndex := by cases b <;> rfl
@[simp] theorem State.setEntry_ring (s : State) (b : Bank) (n : EntryNo) (e : Entry) : (s.setEntry b n e).ring = s.ring := by cases b <;> rfl
@[simp] theorem State.setEntry_slotMap (s : State) (b : Bank) (n : EntryNo) (e : Entry) : (s.setEntry b n e).slotMap = s.slotMap := by cases b <;> rfl
@[simp] theorem State.setEntry_stations (s : State) (b : Bank) (n : EntryNo) (e : Entry) : (s.setEntry b n e).stations = s.stations := by cases b <;> rfl
@[simp] theorem State.setEntry_timer (s : State) (b : Bank) (n : EntryNo) (e : Entry) : (s.setEntry b n e).timer = s.timer := by cases b <;> rfl
@[simp] theorem State.setEntry_free (s : State) (b : Bank) (n : EntryNo) (e : Entry) : (s.setEntry b n e).free = s.free := by cases b <;> rfl
@[simp] theorem State.setEntry_gate (s : State) (b : Bank) (n : EntryNo) (e : Entry) : (s.setEntry b n e).gate = s.gate := by cases b <;> rfl
@[simp] theorem State.setEntry_serial (s : State) (b : Bank) (n : EntryNo) (e : Entry) : (s.setEntry b n e).serial = s.serial := by cases b <;> rfl
@[simp] theorem State.setEntry_lanes (s : State) (b : Bank) (n : EntryNo) (e : Entry) : (s.setEntry b n e).lanes = s.lanes := by cases b <;> rfl
@[simp] theorem State.setEntry_active (s : State) (b : Bank) (n : EntryNo) (e : Entry) : (s.setEntry b n e).active = s.active := by cases b <;> rfl
@[simp] theorem State.setEntry_pendingSwitch (s : State) (b : Bank) (n : EntryNo) (e : Entry) : (s.setEntry b n e).pendingSwitch = s.pendingSwitch := by cases b <;> rfl
@[simp] theorem State.setEntry_zones (s : State) (b : Bank) (n : EntryNo) (e : Entry) : (s.setEntry b n e).zones = s.zones := by cases b <;> rfl
@[simp] theorem State.setEntry_conv (s : State) (b : Bank) (n : EntryNo) (e : Entry) : (s.setEntry b n e).conv = s.conv := by cases b <;> rfl
@[simp] theorem State.setEntry_chipAlarms (s : State) (b : Bank) (n : EntryNo) (e : Entry) : (s.setEntry b n e).chipAlarms = s.chipAlarms := by cases b <;> rfl
@[simp] theorem State.setEntry_stopReason (s : State) (b : Bank) (n : EntryNo) (e : Entry) : (s.setEntry b n e).stopReason = s.stopReason := by cases b <;> rfl
@[simp] theorem State.setEntry_pending (s : State) (b : Bank) (n : EntryNo) (e : Entry) : (s.setEntry b n e).pending = s.pending := by cases b <;> rfl
@[simp] theorem State.updRefs_power (s : State) (b : Bank) (n : EntryNo) (f : Nat → Nat) : (s.updRefs b n f).power = s.power := by cases b <;> rfl
@[simp] theorem State.updRefs_bypdrv (s : State) (b : Bank) (n : EntryNo) (f : Nat → Nat) : (s.updRefs b n f).bypdrv = s.bypdrv := by cases b <;> rfl
@[simp] theorem State.updRefs_nodeAddr (s : State) (b : Bank) (n : EntryNo) (f : Nat → Nat) : (s.updRefs b n f).nodeAddr = s.nodeAddr := by cases b <;> rfl
@[simp] theorem State.updRefs_role (s : State) (b : Bank) (n : EntryNo) (f : Nat → Nat) : (s.updRefs b n f).role = s.role := by cases b <;> rfl
@[simp] theorem State.updRefs_pendingRole (s : State) (b : Bank) (n : EntryNo) (f : Nat → Nat) : (s.updRefs b n f).pendingRole = s.pendingRole := by cases b <;> rfl
@[simp] theorem State.updRefs_buffer (s : State) (b : Bank) (n : EntryNo) (f : Nat → Nat) : (s.updRefs b n f).buffer = s.buffer := by cases b <;> rfl
@[simp] theorem State.updRefs_phase (s : State) (b : Bank) (n : EntryNo) (f : Nat → Nat) : (s.updRefs b n f).phase = s.phase := by cases b <;> rfl
@[simp] theorem State.updRefs_cardViews (s : State) (b : Bank) (n : EntryNo) (f : Nat → Nat) : (s.updRefs b n f).cardViews = s.cardViews := by cases b <;> rfl
@[simp] theorem State.updRefs_ringOut (s : State) (b : Bank) (n : EntryNo) (f : Nat → Nat) : (s.updRefs b n f).ringOut = s.ringOut := by cases b <;> rfl
@[simp] theorem State.updRefs_lastIndex (s : State) (b : Bank) (n : EntryNo) (f : Nat → Nat) : (s.updRefs b n f).lastIndex = s.lastIndex := by cases b <;> rfl
@[simp] theorem State.updRefs_ring (s : State) (b : Bank) (n : EntryNo) (f : Nat → Nat) : (s.updRefs b n f).ring = s.ring := by cases b <;> rfl
@[simp] theorem State.updRefs_slotMap (s : State) (b : Bank) (n : EntryNo) (f : Nat → Nat) : (s.updRefs b n f).slotMap = s.slotMap := by cases b <;> rfl
@[simp] theorem State.updRefs_stations (s : State) (b : Bank) (n : EntryNo) (f : Nat → Nat) : (s.updRefs b n f).stations = s.stations := by cases b <;> rfl
@[simp] theorem State.updRefs_timer (s : State) (b : Bank) (n : EntryNo) (f : Nat → Nat) : (s.updRefs b n f).timer = s.timer := by cases b <;> rfl
@[simp] theorem State.updRefs_free (s : State) (b : Bank) (n : EntryNo) (f : Nat → Nat) : (s.updRefs b n f).free = s.free := by cases b <;> rfl
@[simp] theorem State.updRefs_gate (s : State) (b : Bank) (n : EntryNo) (f : Nat → Nat) : (s.updRefs b n f).gate = s.gate := by cases b <;> rfl
@[simp] theorem State.updRefs_serial (s : State) (b : Bank) (n : EntryNo) (f : Nat → Nat) : (s.updRefs b n f).serial = s.serial := by cases b <;> rfl
@[simp] theorem State.updRefs_lanes (s : State) (b : Bank) (n : EntryNo) (f : Nat → Nat) : (s.updRefs b n f).lanes = s.lanes := by cases b <;> rfl
@[simp] theorem State.updRefs_active (s : State) (b : Bank) (n : EntryNo) (f : Nat → Nat) : (s.updRefs b n f).active = s.active := by cases b <;> rfl
@[simp] theorem State.updRefs_pendingSwitch (s : State) (b : Bank) (n : EntryNo) (f : Nat → Nat) : (s.updRefs b n f).pendingSwitch = s.pendingSwitch := by cases b <;> rfl
@[simp] theorem State.updRefs_zones (s : State) (b : Bank) (n : EntryNo) (f : Nat → Nat) : (s.updRefs b n f).zones = s.zones := by cases b <;> rfl
@[simp] theorem State.updRefs_conv (s : State) (b : Bank) (n : EntryNo) (f : Nat → Nat) : (s.updRefs b n f).conv = s.conv := by cases b <;> rfl
@[simp] theorem State.updRefs_chipAlarms (s : State) (b : Bank) (n : EntryNo) (f : Nat → Nat) : (s.updRefs b n f).chipAlarms = s.chipAlarms := by cases b <;> rfl
@[simp] theorem State.updRefs_stopReason (s : State) (b : Bank) (n : EntryNo) (f : Nat → Nat) : (s.updRefs b n f).stopReason = s.stopReason := by cases b <;> rfl
@[simp] theorem State.updRefs_pending (s : State) (b : Bank) (n : EntryNo) (f : Nat → Nat) : (s.updRefs b n f).pending = s.pending := by cases b <;> rfl

/-! ## The Tracking Store -/

@[simp] theorem State.freeRecord_free (s : State) (c : Card) : (s.freeRecord c).free = s.free ++ [c.record] := by
  simp [State.freeRecord]
@[simp] theorem State.lane_freeRecord (s : State) (c : Card) (l : Lane) : (s.freeRecord c).lane l = s.lane l := by
  cases h : c.bank <;> simp [State.freeRecord, State.updRefs, State.setEntry, State.lane, h]
theorem State.entry_freeRecord (s : State) (c : Card) (b : Bank) (n : EntryNo) :
    (s.freeRecord c).entry b n =
      if c.bank = b ∧ c.entry = n then { s.entry b n with refs := (s.entry b n).refs - 1 } else s.entry b n := by
  rw [← State.entry_updRefs (f := fun r => r - 1)]
  cases b <;> rfl

@[simp] theorem State.freeRecord_power (s : State) (c : Card) : (s.freeRecord c).power = s.power := by simp [State.freeRecord]
@[simp] theorem State.freeRecord_bypdrv (s : State) (c : Card) : (s.freeRecord c).bypdrv = s.bypdrv := by simp [State.freeRecord]
@[simp] theorem State.freeRecord_nodeAddr (s : State) (c : Card) : (s.freeRecord c).nodeAddr = s.nodeAddr := by simp [State.freeRecord]
@[simp] theorem State.freeRecord_role (s : State) (c : Card) : (s.freeRecord c).role = s.role := by simp [State.freeRecord]
@[simp] theorem State.freeRecord_pendingRole (s : State) (c : Card) : (s.freeRecord c).pendingRole = s.pendingRole := by simp [State.freeRecord]
@[simp] theorem State.freeRecord_buffer (s : State) (c : Card) : (s.freeRecord c).buffer = s.buffer := by simp [State.freeRecord]
@[simp] theorem State.freeRecord_phase (s : State) (c : Card) : (s.freeRecord c).phase = s.phase := by simp [State.freeRecord]
@[simp] theorem State.freeRecord_cardViews (s : State) (c : Card) : (s.freeRecord c).cardViews = s.cardViews := by simp [State.freeRecord]
@[simp] theorem State.freeRecord_ringOut (s : State) (c : Card) : (s.freeRecord c).ringOut = s.ringOut := by simp [State.freeRecord]
@[simp] theorem State.freeRecord_lastIndex (s : State) (c : Card) : (s.freeRecord c).lastIndex = s.lastIndex := by simp [State.freeRecord]
@[simp] theorem State.freeRecord_ring (s : State) (c : Card) : (s.freeRecord c).ring = s.ring := by simp [State.freeRecord]
@[simp] theorem State.freeRecord_slotMap (s : State) (c : Card) : (s.freeRecord c).slotMap = s.slotMap := by simp [State.freeRecord]
@[simp] theorem State.freeRecord_stations (s : State) (c : Card) : (s.freeRecord c).stations = s.stations := by simp [State.freeRecord]
@[simp] theorem State.freeRecord_timer (s : State) (c : Card) : (s.freeRecord c).timer = s.timer := by simp [State.freeRecord]
@[simp] theorem State.freeRecord_gate (s : State) (c : Card) : (s.freeRecord c).gate = s.gate := by simp [State.freeRecord]
@[simp] theorem State.freeRecord_serial (s : State) (c : Card) : (s.freeRecord c).serial = s.serial := by simp [State.freeRecord]
@[simp] theorem State.freeRecord_lanes (s : State) (c : Card) : (s.freeRecord c).lanes = s.lanes := by simp [State.freeRecord]
@[simp] theorem State.freeRecord_active (s : State) (c : Card) : (s.freeRecord c).active = s.active := by simp [State.freeRecord]
@[simp] theorem State.freeRecord_pendingSwitch (s : State) (c : Card) : (s.freeRecord c).pendingSwitch = s.pendingSwitch := by simp [State.freeRecord]
@[simp] theorem State.freeRecord_zones (s : State) (c : Card) : (s.freeRecord c).zones = s.zones := by simp [State.freeRecord]
@[simp] theorem State.freeRecord_conv (s : State) (c : Card) : (s.freeRecord c).conv = s.conv := by simp [State.freeRecord]
@[simp] theorem State.freeRecord_chipAlarms (s : State) (c : Card) : (s.freeRecord c).chipAlarms = s.chipAlarms := by simp [State.freeRecord]
@[simp] theorem State.freeRecord_stopReason (s : State) (c : Card) : (s.freeRecord c).stopReason = s.stopReason := by simp [State.freeRecord]
@[simp] theorem State.freeRecord_pending (s : State) (c : Card) : (s.freeRecord c).pending = s.pending := by simp [State.freeRecord]

/-! ## Alarms -/

@[simp] theorem State.latchLane_power (s : State) (l : Lane) (a : LaneAlarm) (d : List Byte) : (s.latchLane l a d).power = s.power := rfl
@[simp] theorem State.latchLane_bypdrv (s : State) (l : Lane) (a : LaneAlarm) (d : List Byte) : (s.latchLane l a d).bypdrv = s.bypdrv := rfl
@[simp] theorem State.latchLane_nodeAddr (s : State) (l : Lane) (a : LaneAlarm) (d : List Byte) : (s.latchLane l a d).nodeAddr = s.nodeAddr := rfl
@[simp] theorem State.latchLane_role (s : State) (l : Lane) (a : LaneAlarm) (d : List Byte) : (s.latchLane l a d).role = s.role := rfl
@[simp] theorem State.latchLane_pendingRole (s : State) (l : Lane) (a : LaneAlarm) (d : List Byte) : (s.latchLane l a d).pendingRole = s.pendingRole := rfl
@[simp] theorem State.latchLane_buffer (s : State) (l : Lane) (a : LaneAlarm) (d : List Byte) : (s.latchLane l a d).buffer = s.buffer := rfl
@[simp] theorem State.latchLane_phase (s : State) (l : Lane) (a : LaneAlarm) (d : List Byte) : (s.latchLane l a d).phase = s.phase := rfl
@[simp] theorem State.latchLane_cardViews (s : State) (l : Lane) (a : LaneAlarm) (d : List Byte) : (s.latchLane l a d).cardViews = s.cardViews := rfl
@[simp] theorem State.latchLane_ringOut (s : State) (l : Lane) (a : LaneAlarm) (d : List Byte) : (s.latchLane l a d).ringOut = s.ringOut := rfl
@[simp] theorem State.latchLane_lastIndex (s : State) (l : Lane) (a : LaneAlarm) (d : List Byte) : (s.latchLane l a d).lastIndex = s.lastIndex := rfl
@[simp] theorem State.latchLane_ring (s : State) (l : Lane) (a : LaneAlarm) (d : List Byte) : (s.latchLane l a d).ring = s.ring := rfl
@[simp] theorem State.latchLane_slotMap (s : State) (l : Lane) (a : LaneAlarm) (d : List Byte) : (s.latchLane l a d).slotMap = s.slotMap := rfl
@[simp] theorem State.latchLane_stations (s : State) (l : Lane) (a : LaneAlarm) (d : List Byte) : (s.latchLane l a d).stations = s.stations := rfl
@[simp] theorem State.latchLane_timer (s : State) (l : Lane) (a : LaneAlarm) (d : List Byte) : (s.latchLane l a d).timer = s.timer := rfl
@[simp] theorem State.latchLane_free (s : State) (l : Lane) (a : LaneAlarm) (d : List Byte) : (s.latchLane l a d).free = s.free := rfl
@[simp] theorem State.latchLane_gate (s : State) (l : Lane) (a : LaneAlarm) (d : List Byte) : (s.latchLane l a d).gate = s.gate := rfl
@[simp] theorem State.latchLane_serial (s : State) (l : Lane) (a : LaneAlarm) (d : List Byte) : (s.latchLane l a d).serial = s.serial := rfl
@[simp] theorem State.latchLane_bankA (s : State) (l : Lane) (a : LaneAlarm) (d : List Byte) : (s.latchLane l a d).bankA = s.bankA := rfl
@[simp] theorem State.latchLane_bankB (s : State) (l : Lane) (a : LaneAlarm) (d : List Byte) : (s.latchLane l a d).bankB = s.bankB := rfl
@[simp] theorem State.latchLane_active (s : State) (l : Lane) (a : LaneAlarm) (d : List Byte) : (s.latchLane l a d).active = s.active := rfl
@[simp] theorem State.latchLane_pendingSwitch (s : State) (l : Lane) (a : LaneAlarm) (d : List Byte) : (s.latchLane l a d).pendingSwitch = s.pendingSwitch := rfl
@[simp] theorem State.latchLane_zones (s : State) (l : Lane) (a : LaneAlarm) (d : List Byte) : (s.latchLane l a d).zones = s.zones := rfl
@[simp] theorem State.latchLane_conv (s : State) (l : Lane) (a : LaneAlarm) (d : List Byte) : (s.latchLane l a d).conv = s.conv := rfl
@[simp] theorem State.latchLane_chipAlarms (s : State) (l : Lane) (a : LaneAlarm) (d : List Byte) : (s.latchLane l a d).chipAlarms = s.chipAlarms := rfl
@[simp] theorem State.latchLane_pending (s : State) (l : Lane) (a : LaneAlarm) (d : List Byte) : (s.latchLane l a d).pending = s.pending := rfl
@[simp] theorem State.latchChip_power (s : State) (a : ChipAlarm) (d : List Byte) : (s.latchChip a d).power = s.power := rfl
@[simp] theorem State.latchChip_bypdrv (s : State) (a : ChipAlarm) (d : List Byte) : (s.latchChip a d).bypdrv = s.bypdrv := rfl
@[simp] theorem State.latchChip_nodeAddr (s : State) (a : ChipAlarm) (d : List Byte) : (s.latchChip a d).nodeAddr = s.nodeAddr := rfl
@[simp] theorem State.latchChip_role (s : State) (a : ChipAlarm) (d : List Byte) : (s.latchChip a d).role = s.role := rfl
@[simp] theorem State.latchChip_pendingRole (s : State) (a : ChipAlarm) (d : List Byte) : (s.latchChip a d).pendingRole = s.pendingRole := rfl
@[simp] theorem State.latchChip_buffer (s : State) (a : ChipAlarm) (d : List Byte) : (s.latchChip a d).buffer = s.buffer := rfl
@[simp] theorem State.latchChip_phase (s : State) (a : ChipAlarm) (d : List Byte) : (s.latchChip a d).phase = s.phase := rfl
@[simp] theorem State.latchChip_cardViews (s : State) (a : ChipAlarm) (d : List Byte) : (s.latchChip a d).cardViews = s.cardViews := rfl
@[simp] theorem State.latchChip_ringOut (s : State) (a : ChipAlarm) (d : List Byte) : (s.latchChip a d).ringOut = s.ringOut := rfl
@[simp] theorem State.latchChip_lastIndex (s : State) (a : ChipAlarm) (d : List Byte) : (s.latchChip a d).lastIndex = s.lastIndex := rfl
@[simp] theorem State.latchChip_ring (s : State) (a : ChipAlarm) (d : List Byte) : (s.latchChip a d).ring = s.ring := rfl
@[simp] theorem State.latchChip_slotMap (s : State) (a : ChipAlarm) (d : List Byte) : (s.latchChip a d).slotMap = s.slotMap := rfl
@[simp] theorem State.latchChip_stations (s : State) (a : ChipAlarm) (d : List Byte) : (s.latchChip a d).stations = s.stations := rfl
@[simp] theorem State.latchChip_timer (s : State) (a : ChipAlarm) (d : List Byte) : (s.latchChip a d).timer = s.timer := rfl
@[simp] theorem State.latchChip_free (s : State) (a : ChipAlarm) (d : List Byte) : (s.latchChip a d).free = s.free := rfl
@[simp] theorem State.latchChip_gate (s : State) (a : ChipAlarm) (d : List Byte) : (s.latchChip a d).gate = s.gate := rfl
@[simp] theorem State.latchChip_serial (s : State) (a : ChipAlarm) (d : List Byte) : (s.latchChip a d).serial = s.serial := rfl
@[simp] theorem State.latchChip_lanes (s : State) (a : ChipAlarm) (d : List Byte) : (s.latchChip a d).lanes = s.lanes := rfl
@[simp] theorem State.latchChip_bankA (s : State) (a : ChipAlarm) (d : List Byte) : (s.latchChip a d).bankA = s.bankA := rfl
@[simp] theorem State.latchChip_bankB (s : State) (a : ChipAlarm) (d : List Byte) : (s.latchChip a d).bankB = s.bankB := rfl
@[simp] theorem State.latchChip_active (s : State) (a : ChipAlarm) (d : List Byte) : (s.latchChip a d).active = s.active := rfl
@[simp] theorem State.latchChip_pendingSwitch (s : State) (a : ChipAlarm) (d : List Byte) : (s.latchChip a d).pendingSwitch = s.pendingSwitch := rfl
@[simp] theorem State.latchChip_zones (s : State) (a : ChipAlarm) (d : List Byte) : (s.latchChip a d).zones = s.zones := rfl
@[simp] theorem State.latchChip_conv (s : State) (a : ChipAlarm) (d : List Byte) : (s.latchChip a d).conv = s.conv := rfl
@[simp] theorem State.latchChip_pending (s : State) (a : ChipAlarm) (d : List Byte) : (s.latchChip a d).pending = s.pending := rfl
@[simp] theorem State.lane_latchChip (s : State) (a : ChipAlarm) (d : List Byte) (l : Lane) : (s.latchChip a d).lane l = s.lane l := rfl
@[simp] theorem State.zone_latchChip (s : State) (a : ChipAlarm) (d : List Byte) (l : Lane) : (s.latchChip a d).zone l = s.zone l := rfl

/-- Latching a lane alarm changes nothing of a lane but its alarms. -/
theorem State.lane_latchLane_proj {α : Type} (p : LaneRec → α) (s : State) (l m : Lane) (a : LaneAlarm) (d : List Byte)
    (h : ∀ r v, p { r with alarms := v } = p r) : p ((s.latchLane l a d).lane m) = p (s.lane m) := by
  exact State.lane_updLane_proj p s l m _ (fun r => h r _)

/-! ## The frame in process -/

@[simp] theorem State.sendHead_power (s : State) (f : Frame) : (s.sendHead f).power = s.power := by unfold State.sendHead; split <;> rfl
@[simp] theorem State.sendHead_bypdrv (s : State) (f : Frame) : (s.sendHead f).bypdrv = s.bypdrv := by unfold State.sendHead; split <;> rfl
@[simp] theorem State.sendHead_nodeAddr (s : State) (f : Frame) : (s.sendHead f).nodeAddr = s.nodeAddr := by unfold State.sendHead; split <;> rfl
@[simp] theorem State.sendHead_role (s : State) (f : Frame) : (s.sendHead f).role = s.role := by unfold State.sendHead; split <;> rfl
@[simp] theorem State.sendHead_pendingRole (s : State) (f : Frame) : (s.sendHead f).pendingRole = s.pendingRole := by unfold State.sendHead; split <;> rfl
@[simp] theorem State.sendHead_ringOut (s : State) (f : Frame) : (s.sendHead f).ringOut = s.ringOut := by unfold State.sendHead; split <;> rfl
@[simp] theorem State.sendHead_lastIndex (s : State) (f : Frame) : (s.sendHead f).lastIndex = s.lastIndex := by unfold State.sendHead; split <;> rfl
@[simp] theorem State.sendHead_ring (s : State) (f : Frame) : (s.sendHead f).ring = s.ring := by unfold State.sendHead; split <;> rfl
@[simp] theorem State.sendHead_slotMap (s : State) (f : Frame) : (s.sendHead f).slotMap = s.slotMap := by unfold State.sendHead; split <;> rfl
@[simp] theorem State.sendHead_stations (s : State) (f : Frame) : (s.sendHead f).stations = s.stations := by unfold State.sendHead; split <;> rfl
@[simp] theorem State.sendHead_timer (s : State) (f : Frame) : (s.sendHead f).timer = s.timer := by unfold State.sendHead; split <;> rfl
@[simp] theorem State.sendHead_free (s : State) (f : Frame) : (s.sendHead f).free = s.free := by unfold State.sendHead; split <;> rfl
@[simp] theorem State.sendHead_gate (s : State) (f : Frame) : (s.sendHead f).gate = s.gate := by unfold State.sendHead; split <;> rfl
@[simp] theorem State.sendHead_serial (s : State) (f : Frame) : (s.sendHead f).serial = s.serial := by unfold State.sendHead; split <;> rfl
@[simp] theorem State.sendHead_lanes (s : State) (f : Frame) : (s.sendHead f).lanes = s.lanes := by unfold State.sendHead; split <;> rfl
@[simp] theorem State.sendHead_bankA (s : State) (f : Frame) : (s.sendHead f).bankA = s.bankA := by unfold State.sendHead; split <;> rfl
@[simp] theorem State.sendHead_bankB (s : State) (f : Frame) : (s.sendHead f).bankB = s.bankB := by unfold State.sendHead; split <;> rfl
@[simp] theorem State.sendHead_active (s : State) (f : Frame) : (s.sendHead f).active = s.active := by unfold State.sendHead; split <;> rfl
@[simp] theorem State.sendHead_pendingSwitch (s : State) (f : Frame) : (s.sendHead f).pendingSwitch = s.pendingSwitch := by unfold State.sendHead; split <;> rfl
@[simp] theorem State.sendHead_zones (s : State) (f : Frame) : (s.sendHead f).zones = s.zones := by unfold State.sendHead; split <;> rfl
@[simp] theorem State.sendHead_conv (s : State) (f : Frame) : (s.sendHead f).conv = s.conv := by unfold State.sendHead; split <;> rfl
@[simp] theorem State.sendHead_chipAlarms (s : State) (f : Frame) : (s.sendHead f).chipAlarms = s.chipAlarms := by unfold State.sendHead; split <;> rfl
@[simp] theorem State.sendHead_stopReason (s : State) (f : Frame) : (s.sendHead f).stopReason = s.stopReason := by unfold State.sendHead; split <;> rfl
@[simp] theorem State.sendHead_pending (s : State) (f : Frame) : (s.sendHead f).pending = s.pending := by unfold State.sendHead; split <;> rfl
@[simp] theorem State.lane_sendHead (s : State) (f : Frame) (l : Lane) : (s.sendHead f).lane l = s.lane l := by
  simp [State.lane]

end Sys2Proof.Machine
end

