-- ==== Sys2Proof/Laws/Service.lean ====
section
/-! SUPPORT. What the Service Unit's shared operation does, once for each way a request can come: under the node address, at broadcast,
and with no occasion; what LANE_COMMAND's common checks answer; and where the Slot Map holds a use. -/

namespace Sys2Proof.Machine

open Sys2Proof.Safety

/-- In operation on the ring (R142). -/
theorem onRing_eq_true_iff (s : State) : s.onRing = true ↔ InOperation s := by simp [State.onRing]

theorem onRing_eq_false (s : State) (h : ¬ InOperation s) : s.onRing = false := by
  rw [← Bool.not_eq_true, onRing_eq_true_iff]; exact h

/-- The frame at the head of the buffer is sent in place of the one in process. -/
theorem sendHead_cons (s : State) (f g : Frame) (rest : List Frame) (h : s.buffer = f :: rest) :
    s.sendHead g = { s with buffer := g :: rest, phase := .sending } := by simp [State.sendHead, h]

theorem handed_cons (s : State) (f : Frame) (rest : List Frame) (hi : InOperation s) (hp : s.phase = .service)
    (hb : s.buffer = f :: rest) : s.handed = some f := by
  simp [State.handed, (onRing_eq_true_iff s).2 hi, hp, hb]

theorem handed_none (s : State) (h : ¬ InOperation s ∨ s.phase ≠ .service ∨ s.buffer = []) : s.handed = none := by
  unfold State.handed
  rcases h with h | h | h
  · simp [onRing_eq_false s h]
  · simp [h]
  · simp [h]

/-- A request under the node address (R161). -/
theorem serve_addressed (r : Request) (decide : List Byte → State → Answer) (f : Frame) (rest : List Frame) (s : State)
    (h : Serves s f rest r) (hb : (decide (serviceData f) s).state.buffer = s.buffer) :
    serve r decide s = .next (replied (decide (serviceData f) s).state f rest (decide (serviceData f) s).status
      (decide (serviceData f) s).data) := by
  obtain ⟨⟨hi, hp, hf, hr⟩, ha⟩ := h
  have hs := sendHead_cons (decide (serviceData f) s).state f
    (replyFrame f (decide (serviceData f) s).status (decide (serviceData f) s).data) rest (by rw [hb, hf])
  simp only [serve, handed_cons s f rest hi hp hf, hr, if_true, answerFrame, if_neg ha, hs, replied]

/-- A read request at broadcast (R162). -/
theorem serve_broadcast_read (r : Request) (decide : List Byte → State → Answer) (f : Frame) (rest : List Frame) (s : State)
    (h : HandsService s f rest r) (ha : byteAt f 1 = 63) (hr : r.isRead = true) :
    serve r decide s = .next (countedRefused s f rest) := by
  obtain ⟨hi, hp, hf, hq⟩ := h
  simp only [serve, handed_cons s f rest hi hp hf, hq, if_true, answerFrame, if_pos ha, hr, sendHead_cons s f _ rest hf,
    countedRefused]

/-- Any other request at broadcast (R162). -/
theorem serve_broadcast (r : Request) (decide : List Byte → State → Answer) (f : Frame) (rest : List Frame) (s : State)
    (h : HandsService s f rest r) (ha : byteAt f 1 = 63) (hr : r.isRead = false)
    (hb : (decide (serviceData f) s).state.buffer = s.buffer) :
    serve r decide s = .next { (decide (serviceData f) s).state with
      buffer := countFrame f (if (decide (serviceData f) s).status.taken then 6 else 7) :: rest, phase := .sending } := by
  obtain ⟨hi, hp, hf, hq⟩ := h
  have hs := sendHead_cons (decide (serviceData f) s).state f
    (countFrame f (if (decide (serviceData f) s).status.taken then 6 else 7)) rest (by rw [hb, hf])
  simp only [serve, handed_cons s f rest hi hp hf, hq, if_true, answerFrame, if_pos ha, hr, hs, Bool.false_eq_true, if_false]

/-- With no service frame handed on, or one that carries another request, nothing happens (assumption 5). -/
theorem serve_without_occasion (r : Request) (decide : List Byte → State → Answer) (s : State)
    (h : ∀ f, s.handed = some f → requestOf f ≠ r) : serve r decide s = .next s := by
  unfold serve
  cases hf : s.handed with
  | none => rfl
  | some f => simp [h f hf]

/-! ## The common checks of LANE_COMMAND -/

/-- The operand of a LANE_COMMAND is well formed exactly when the check of its unused fields finds nothing (R167). -/
theorem laneOperand_iff (f : Frame) (usesEntry usesIndex : Bool) :
    LaneOperand f usesEntry usesIndex ↔ ¬ ((!restZero (serviceData f) 5 || (!usesIndex && word16 (serviceData f) 3 ≠ 0)
      || (!usesEntry && byteAt (serviceData f) 2 ≠ 0)) = true) := by
  have hb : byteAt (serviceData f) 2 = 0#8 ↔ natAt (serviceData f) 2 = 0 :=
    ⟨fun h => by rw [natAt, h]; rfl, fun h => BitVec.eq_of_toNat_eq h⟩
  unfold LaneOperand
  generalize restZero (serviceData f) 5 = z
  cases z <;> cases usesEntry <;> cases usesIndex <;> simp [hb, and_comm]

/-- A malformed operand is refused FORMAT (R40, R167). -/
theorem laneCommand_malformed (f : Frame) (usesEntry usesIndex : Bool) (s : State) (decide : Lane → Answer)
    (h : ¬ LaneOperand f usesEntry usesIndex) :
    laneCommand usesEntry usesIndex (serviceData f) s decide = refuseFormat s := by
  rw [laneOperand_iff, not_not] at h
  simp only [laneCommand, h, if_true]

/-- A lane above 5 is refused RANGE (R40). -/
theorem laneCommand_no_lane (f : Frame) (usesEntry usesIndex : Bool) (s : State) (decide : Lane → Answer)
    (h : LaneOperand f usesEntry usesIndex) (hl : 5 < natAt (serviceData f) 0) :
    laneCommand usesEntry usesIndex (serviceData f) s decide = refuse .refusedRange [] s := by
  rw [laneOperand_iff] at h
  simp only [laneCommand, if_neg h, laneOf, dif_neg (show ¬ natAt (serviceData f) 0 < 6 by omega)]

/-- A well-formed command for a lane is decided by its own rule (R40). -/
theorem laneCommand_lane (f : Frame) (usesEntry usesIndex : Bool) (s : State) (decide : Lane → Answer) (l : Lane)
    (h : LaneOperand f usesEntry usesIndex) (hl : natAt (serviceData f) 0 = l) :
    laneCommand usesEntry usesIndex (serviceData f) s decide = decide l := by
  rw [laneOperand_iff] at h
  simp only [laneCommand, if_neg h, laneOf, hl, dif_pos l.isLt]

/-! ## Where the Slot Map holds a use -/

/-- The first entry that holds a use gives its slot (R147). -/
theorem State.slotOf_eq_some (s : State) (u : SlotUse) (i : Fin 48) (h : s.slotMap[i] = u)
    (first : ∀ j : Fin 48, j < i → s.slotMap[j] ≠ u) : s.slotOf u = some i.val := by
  rw [State.slotOf, List.findIdx?_eq_some_iff_getElem]
  exact ⟨by simp, by simpa using h, fun j hj => by simpa using first ⟨j, by omega⟩ hj⟩

/-- A use that no entry holds is not mapped (R147). -/
theorem State.slotOf_eq_none (s : State) (u : SlotUse) (h : ∀ i : Fin 48, s.slotMap[i] ≠ u) : s.slotOf u = none := by
  rw [State.slotOf, List.findIdx?_eq_none_iff]
  intro x hx
  obtain ⟨i, hi, rfl⟩ := List.mem_iff_getElem.1 hx
  simpa using h ⟨i, by simpa using hi⟩

end Sys2Proof.Machine
end

