-- ==== Sys2Proof/Laws/Ops.lean ====
section
/-! SUPPORT. What the shared operations of the tracking do, said once each: reasons, counters, entry to FAULT, and the rules by which a
property passes through the repeated operations (each lane, the gate list, the pitch steps, the gap handling, the command slots). -/

namespace Sys2Proof.Machine

/-! ## Reasons -/

/-- A card's reason set is all that adding a reason changes. -/
theorem Card.addReason_eq (r : Reason) (c : Card) : c.addReason r = { c with reasons := (c.addReason r).reasons } := by
  unfold Card.addReason; split <;> rfl

theorem Card.reasons_addReason (r : Reason) (c : Card) :
    (c.addReason r).reasons = if r ∈ c.reasons then c.reasons else c.reasons ++ [r] := by
  unfold Card.addReason; split <;> rfl

theorem Card.reasons_addReason_ne_nil (r : Reason) (c : Card) : (c.addReason r).reasons ≠ [] := by
  rw [Card.reasons_addReason]; split
  · next h => exact List.ne_nil_of_mem h
  · simp

@[simp] theorem Card.addReason_record (r : Reason) (c : Card) : (c.addReason r).record = c.record := by rw [Card.addReason_eq]
@[simp] theorem Card.addReason_serial (r : Reason) (c : Card) : (c.addReason r).serial = c.serial := by rw [Card.addReason_eq]
@[simp] theorem Card.addReason_lane (r : Reason) (c : Card) : (c.addReason r).lane = c.lane := by rw [Card.addReason_eq]
@[simp] theorem Card.addReason_formed (r : Reason) (c : Card) : (c.addReason r).formed = c.formed := by rw [Card.addReason_eq]
@[simp] theorem Card.addReason_bank (r : Reason) (c : Card) : (c.addReason r).bank = c.bank := by rw [Card.addReason_eq]
@[simp] theorem Card.addReason_entry (r : Reason) (c : Card) : (c.addReason r).entry = c.entry := by rw [Card.addReason_eq]
@[simp] theorem Card.addReason_sku (r : Reason) (c : Card) : (c.addReason r).sku = c.sku := by rw [Card.addReason_eq]
@[simp] theorem Card.addReason_commanded (r : Reason) (c : Card) : (c.addReason r).commanded = c.commanded := by rw [Card.addReason_eq]
@[simp] theorem Card.addReason_loadResult (r : Reason) (c : Card) : (c.addReason r).loadResult = c.loadResult := by rw [Card.addReason_eq]
@[simp] theorem Card.addReason_inspection (r : Reason) (c : Card) : (c.addReason r).inspection = c.inspection := by rw [Card.addReason_eq]
@[simp] theorem Card.addReason_placed (r : Reason) (c : Card) : (c.addReason r).placed = c.placed := by rw [Card.addReason_eq]
@[simp] theorem Card.addReason_sealRec (r : Reason) (c : Card) : (c.addReason r).sealRec = c.sealRec := by rw [Card.addReason_eq]
@[simp] theorem Card.addReason_gateIndex (r : Reason) (c : Card) : (c.addReason r).gateIndex = c.gateIndex := by rw [Card.addReason_eq]

/-- Adding a reason under a condition changes the reason set alone. -/
theorem Card.addReasonIf_eq (b : Bool) (r : Reason) (c : Card) :
    c.addReasonIf b r = { c with reasons := (c.addReasonIf b r).reasons } := by
  unfold Card.addReasonIf; split
  · exact c.addReason_eq r
  · rfl

@[simp] theorem Card.addReasonIf_record (b : Bool) (r : Reason) (c : Card) : (c.addReasonIf b r).record = c.record := by rw [Card.addReasonIf_eq]
@[simp] theorem Card.addReasonIf_serial (b : Bool) (r : Reason) (c : Card) : (c.addReasonIf b r).serial = c.serial := by rw [Card.addReasonIf_eq]
@[simp] theorem Card.addReasonIf_lane (b : Bool) (r : Reason) (c : Card) : (c.addReasonIf b r).lane = c.lane := by rw [Card.addReasonIf_eq]
@[simp] theorem Card.addReasonIf_formed (b : Bool) (r : Reason) (c : Card) : (c.addReasonIf b r).formed = c.formed := by rw [Card.addReasonIf_eq]
@[simp] theorem Card.addReasonIf_bank (b : Bool) (r : Reason) (c : Card) : (c.addReasonIf b r).bank = c.bank := by rw [Card.addReasonIf_eq]
@[simp] theorem Card.addReasonIf_entry (b : Bool) (r : Reason) (c : Card) : (c.addReasonIf b r).entry = c.entry := by rw [Card.addReasonIf_eq]
@[simp] theorem Card.addReasonIf_sku (b : Bool) (r : Reason) (c : Card) : (c.addReasonIf b r).sku = c.sku := by rw [Card.addReasonIf_eq]
@[simp] theorem Card.addReasonIf_commanded (b : Bool) (r : Reason) (c : Card) : (c.addReasonIf b r).commanded = c.commanded := by rw [Card.addReasonIf_eq]
@[simp] theorem Card.addReasonIf_loadResult (b : Bool) (r : Reason) (c : Card) : (c.addReasonIf b r).loadResult = c.loadResult := by rw [Card.addReasonIf_eq]
@[simp] theorem Card.addReasonIf_inspection (b : Bool) (r : Reason) (c : Card) : (c.addReasonIf b r).inspection = c.inspection := by rw [Card.addReasonIf_eq]
@[simp] theorem Card.addReasonIf_placed (b : Bool) (r : Reason) (c : Card) : (c.addReasonIf b r).placed = c.placed := by rw [Card.addReasonIf_eq]
@[simp] theorem Card.addReasonIf_sealRec (b : Bool) (r : Reason) (c : Card) : (c.addReasonIf b r).sealRec = c.sealRec := by rw [Card.addReasonIf_eq]
@[simp] theorem Card.addReasonIf_gateIndex (b : Bool) (r : Reason) (c : Card) : (c.addReasonIf b r).gateIndex = c.gateIndex := by rw [Card.addReasonIf_eq]

/-! ## Counters -/

/-- A counter after a bump. -/
theorem LaneRec.counters_bump (r : LaneRec) (i j : Fin 21) (n : Nat) :
    (r.bump i n).counters[j] = r.counters[j] + if i = j then BitVec.ofNat 32 n else 0 := by
  unfold LaneRec.bump
  split
  · next h => subst h; simp
  · next h =>
    have h' : (i : Nat) ≠ (j : Nat) := fun e => h (Fin.ext e)
    simp [h']

/-- The counters of a lane are all that counting a rejected card changes. -/
theorem LaneRec.countRejected_eq (c : Card) (r : LaneRec) :
    r.countRejected c = { r with counters := (r.countRejected c).counters } := by
  unfold LaneRec.countRejected; split <;> rfl

/-- A counter after a rejected card is counted: the rejected counter and that of the first reason. -/
theorem LaneRec.counters_countRejected (c : Card) (r : LaneRec) (j : Fin 21) :
    (r.countRejected c).counters[j] =
      r.counters[j] + (if j = 2 then 1 else 0) + if c.firstReason.map Reason.counter = some j then 1 else 0 := by
  unfold LaneRec.countRejected
  split
  · next why h => simp only [LaneRec.counters_bump, h, Option.map_some, Option.some.injEq, eq_comm (a := (2 : Fin 21)), BitVec.ofNat_eq_ofNat]
  · next h => simp only [LaneRec.counters_bump, h, Option.map_none, eq_comm (a := (2 : Fin 21)), BitVec.ofNat_eq_ofNat]; simp

@[simp] theorem LaneRec.bump_state (i : Fin 21) (n : Nat) (r : LaneRec) : (r.bump i n).state = r.state := rfl
@[simp] theorem LaneRec.bump_assigned (i : Fin 21) (n : Nat) (r : LaneRec) : (r.bump i n).assigned = r.assigned := rfl
@[simp] theorem LaneRec.bump_changeover (i : Fin 21) (n : Nat) (r : LaneRec) : (r.bump i n).changeover = r.changeover := rfl
@[simp] theorem LaneRec.bump_force (i : Fin 21) (n : Nat) (r : LaneRec) : (r.bump i n).force = r.force := rfl
@[simp] theorem LaneRec.bump_autoPurge (i : Fin 21) (n : Nat) (r : LaneRec) : (r.bump i n).autoPurge = r.autoPurge := rfl
@[simp] theorem LaneRec.bump_blind (i : Fin 21) (n : Nat) (r : LaneRec) : (r.bump i n).blind = r.blind := rfl
@[simp] theorem LaneRec.bump_silence (i : Fin 21) (n : Nat) (r : LaneRec) : (r.bump i n).silence = r.silence := rfl
@[simp] theorem LaneRec.bump_openBatch (i : Fin 21) (n : Nat) (r : LaneRec) : (r.bump i n).openBatch = r.openBatch := rfl
@[simp] theorem LaneRec.bump_lastBatch (i : Fin 21) (n : Nat) (r : LaneRec) : (r.bump i n).lastBatch = r.lastBatch := rfl
@[simp] theorem LaneRec.bump_held (i : Fin 21) (n : Nat) (r : LaneRec) : (r.bump i n).held = r.held := rfl
@[simp] theorem LaneRec.bump_blindAnswer (i : Fin 21) (n : Nat) (r : LaneRec) : (r.bump i n).blindAnswer = r.blindAnswer := rfl
@[simp] theorem LaneRec.bump_stationLost (i : Fin 21) (n : Nat) (r : LaneRec) : (r.bump i n).stationLost = r.stationLost := rfl
@[simp] theorem LaneRec.bump_faultDue (i : Fin 21) (n : Nat) (r : LaneRec) : (r.bump i n).faultDue = r.faultDue := rfl
@[simp] theorem LaneRec.bump_web (i : Fin 21) (n : Nat) (r : LaneRec) : (r.bump i n).web = r.web := rfl
@[simp] theorem LaneRec.bump_alarms (i : Fin 21) (n : Nat) (r : LaneRec) : (r.bump i n).alarms = r.alarms := rfl
@[simp] theorem LaneRec.bump_plan (i : Fin 21) (n : Nat) (r : LaneRec) : (r.bump i n).plan = r.plan := rfl

@[simp] theorem LaneRec.countRejected_state (c : Card) (r : LaneRec) : (r.countRejected c).state = r.state := by rw [LaneRec.countRejected_eq]
@[simp] theorem LaneRec.countRejected_assigned (c : Card) (r : LaneRec) : (r.countRejected c).assigned = r.assigned := by rw [LaneRec.countRejected_eq]
@[simp] theorem LaneRec.countRejected_changeover (c : Card) (r : LaneRec) : (r.countRejected c).changeover = r.changeover := by rw [LaneRec.countRejected_eq]
@[simp] theorem LaneRec.countRejected_force (c : Card) (r : LaneRec) : (r.countRejected c).force = r.force := by rw [LaneRec.countRejected_eq]
@[simp] theorem LaneRec.countRejected_autoPurge (c : Card) (r : LaneRec) : (r.countRejected c).autoPurge = r.autoPurge := by rw [LaneRec.countRejected_eq]
@[simp] theorem LaneRec.countRejected_blind (c : Card) (r : LaneRec) : (r.countRejected c).blind = r.blind := by rw [LaneRec.countRejected_eq]
@[simp] theorem LaneRec.countRejected_silence (c : Card) (r : LaneRec) : (r.countRejected c).silence = r.silence := by rw [LaneRec.countRejected_eq]
@[simp] theorem LaneRec.countRejected_openBatch (c : Card) (r : LaneRec) : (r.countRejected c).openBatch = r.openBatch := by rw [LaneRec.countRejected_eq]
@[simp] theorem LaneRec.countRejected_lastBatch (c : Card) (r : LaneRec) : (r.countRejected c).lastBatch = r.lastBatch := by rw [LaneRec.countRejected_eq]
@[simp] theorem LaneRec.countRejected_held (c : Card) (r : LaneRec) : (r.countRejected c).held = r.held := by rw [LaneRec.countRejected_eq]
@[simp] theorem LaneRec.countRejected_blindAnswer (c : Card) (r : LaneRec) : (r.countRejected c).blindAnswer = r.blindAnswer := by rw [LaneRec.countRejected_eq]
@[simp] theorem LaneRec.countRejected_stationLost (c : Card) (r : LaneRec) : (r.countRejected c).stationLost = r.stationLost := by rw [LaneRec.countRejected_eq]
@[simp] theorem LaneRec.countRejected_faultDue (c : Card) (r : LaneRec) : (r.countRejected c).faultDue = r.faultDue := by rw [LaneRec.countRejected_eq]
@[simp] theorem LaneRec.countRejected_web (c : Card) (r : LaneRec) : (r.countRejected c).web = r.web := by rw [LaneRec.countRejected_eq]
@[simp] theorem LaneRec.countRejected_alarms (c : Card) (r : LaneRec) : (r.countRejected c).alarms = r.alarms := by rw [LaneRec.countRejected_eq]
@[simp] theorem LaneRec.countRejected_plan (c : Card) (r : LaneRec) : (r.countRejected c).plan = r.plan := by rw [LaneRec.countRejected_eq]

/-! ## Entry to FAULT -/

/-- The lane state and the pending changeover are all that entry to FAULT changes (R45). -/
theorem LaneRec.enterFault_eq (r : LaneRec) : r.enterFault =
    if r.state = .run ∨ r.state = .drain then { r with state := .fault, changeover := none } else r := by
  unfold LaneRec.enterFault; cases r.state <;> rfl

@[simp] theorem LaneRec.enterFault_assigned (r : LaneRec) : r.enterFault.assigned = r.assigned := by rw [LaneRec.enterFault_eq]; split <;> rfl
@[simp] theorem LaneRec.enterFault_force (r : LaneRec) : r.enterFault.force = r.force := by rw [LaneRec.enterFault_eq]; split <;> rfl
@[simp] theorem LaneRec.enterFault_autoPurge (r : LaneRec) : r.enterFault.autoPurge = r.autoPurge := by rw [LaneRec.enterFault_eq]; split <;> rfl
@[simp] theorem LaneRec.enterFault_blind (r : LaneRec) : r.enterFault.blind = r.blind := by rw [LaneRec.enterFault_eq]; split <;> rfl
@[simp] theorem LaneRec.enterFault_silence (r : LaneRec) : r.enterFault.silence = r.silence := by rw [LaneRec.enterFault_eq]; split <;> rfl
@[simp] theorem LaneRec.enterFault_openBatch (r : LaneRec) : r.enterFault.openBatch = r.openBatch := by rw [LaneRec.enterFault_eq]; split <;> rfl
@[simp] theorem LaneRec.enterFault_lastBatch (r : LaneRec) : r.enterFault.lastBatch = r.lastBatch := by rw [LaneRec.enterFault_eq]; split <;> rfl
@[simp] theorem LaneRec.enterFault_held (r : LaneRec) : r.enterFault.held = r.held := by rw [LaneRec.enterFault_eq]; split <;> rfl
@[simp] theorem LaneRec.enterFault_blindAnswer (r : LaneRec) : r.enterFault.blindAnswer = r.blindAnswer := by rw [LaneRec.enterFault_eq]; split <;> rfl
@[simp] theorem LaneRec.enterFault_stationLost (r : LaneRec) : r.enterFault.stationLost = r.stationLost := by rw [LaneRec.enterFault_eq]; split <;> rfl
@[simp] theorem LaneRec.enterFault_faultDue (r : LaneRec) : r.enterFault.faultDue = r.faultDue := by rw [LaneRec.enterFault_eq]; split <;> rfl
@[simp] theorem LaneRec.enterFault_web (r : LaneRec) : r.enterFault.web = r.web := by rw [LaneRec.enterFault_eq]; split <;> rfl
@[simp] theorem LaneRec.enterFault_alarms (r : LaneRec) : r.enterFault.alarms = r.alarms := by rw [LaneRec.enterFault_eq]; split <;> rfl
@[simp] theorem LaneRec.enterFault_plan (r : LaneRec) : r.enterFault.plan = r.plan := by rw [LaneRec.enterFault_eq]; split <;> rfl
@[simp] theorem LaneRec.enterFault_counters (r : LaneRec) : r.enterFault.counters = r.counters := by
  rw [LaneRec.enterFault_eq]; split <;> rfl

/-! ## What the repeated operations keep -/

/-- A property that every member keeps passes through a fold. -/
theorem foldl_keeps {α β : Type} (P : β → Prop) (f : β → α → β) (xs : List α) (b : β) (hb : P b)
    (h : ∀ b, ∀ a ∈ xs, P b → P (f b a)) : P (xs.foldl f b) := by
  induction xs generalizing b with
  | nil => exact hb
  | cons x xs ih =>
    exact ih (f b x) (h b x (by simp) hb) (fun b a ha hb => h b a (by simp [ha]) hb)

/-- Something done for each lane keeps what it keeps for one. -/
theorem State.eachLane_keeps (P : State → Prop) (f : Lane → State → State) (s : State) (hs : P s)
    (h : ∀ l t, P t → P (f l t)) : P (s.eachLane f) :=
  foldl_keeps P _ _ s hs (fun t l _ ht => h l t ht)

/-- Taking cards off the gate list keeps what taking them off, counting and freeing one keeps. -/
theorem State.removeGate_keeps (P : State → Prop) (p : Card → Bool) (count : Card → LaneRec → LaneRec) (s : State)
    (hs : P { s with gate := s.gate.filter (fun c => !p c) })
    (h : ∀ c ∈ s.gate, p c = true → ∀ t, P t → P ((t.updLane c.lane (count c)).freeRecord c)) : P (s.removeGate p count) :=
  foldl_keeps P _ _ _ hs (fun t c hc ht => h c (List.mem_of_mem_filter hc) (by simpa using (List.mem_filter.1 hc).2) t ht)

/-- A lane whose step has not ended takes its next stage (R55). -/
theorem Steps.advance_of_le (x : StepCtx) (l : Lane) (p : Steps) (h : p.next[l] ≤ 7) :
    p.advance x l = ⟨runStage x p.next[l] l p.state, p.next.set l (p.next[l] + 1)⟩ := if_pos h

/-- A lane whose step has ended takes none (assumption 18). -/
theorem Steps.advance_of_lt (x : StepCtx) (l : Lane) (p : Steps) (h : 7 < p.next[l]) : p.advance x l = p :=
  if_neg (Nat.not_le.2 h)

/-- One lane's next stage keeps what every stage keeps. -/
theorem Steps.advance_keeps (P : State → Prop) (x : StepCtx) (l : Lane) (p : Steps) (hp : P p.state)
    (h : ∀ n m t, P t → P (runStage x n m t)) : P (p.advance x l).state := by
  unfold Steps.advance; split
  · exact h _ _ _ hp
  · exact hp

/-- The pitch steps of a frame, in any order, keep what every stage and every end of a conversion keeps. -/
theorem runPitchSteps_keeps (P : State → Prop) (x : StepCtx) (ticks : List Tick) (s : State) (hs : P s)
    (hstage : ∀ n l t, P t → P (runStage x n l t))
    (hconv : ∀ raw inStep t, Tick.conversion raw ∈ ticks → P t → P (t.convert raw inStep)) : P (runPitchSteps x ticks s) := by
  unfold runPitchSteps
  refine foldl_keeps (fun p : Steps => P p.state) _ _ _ ?_ (fun p l _ hp => ?_)
  · refine foldl_keeps (fun p : Steps => P p.state) _ _ _ hs (fun p t ht hp => ?_)
    cases t with
    | stage l => exact p.advance_keeps P x l hp hstage
    | conversion raw => exact hconv raw _ _ ht hp
  · unfold Steps.finish
    generalize 7 = n
    induction n with
    | zero => exact hp
    | succ n ih => rw [Function.iterate_succ_apply']; exact Steps.advance_keeps P x l _ ih hstage

/-- The gap handling, in any order of the lanes, keeps what each of its parts keeps. -/
theorem gapHandling_keeps (P : State → Prop) (last k : Index) (order : List Lane) (s : State)
    (hs : P (s.latchChip .indexGap (bytes16 last ++ bytes16 k))) (h : ∀ n l t, P t → P (gapPart last k n l t)) :
    P (gapHandling last k order s) := by
  unfold gapHandling
  refine foldl_keeps (fun p : Steps => P p.state) _ _ _ hs (fun p l _ hp => ?_)
  show P (gapAdvance last k p l).state
  unfold gapAdvance; split
  · exact h _ _ _ hp
  · exact hp

/-- The end of a cycle frame keeps what each command slot and the status slot keep, and then regenerates the CRC. -/
theorem finishCycle_keeps (P : Work → Prop) (isRepeat : Bool) (f : Frame) (s : State) (hs : P ⟨s, f⟩)
    (hslot : ∀ w e, P w → P (commandSlot isRepeat w e)) (hstatus : ∀ w, P w → P (writeStatus w))
    (hcrc : ∀ w, P w → P { w with frame := withCrc w.frame }) : P (finishCycle isRepeat f s) :=
  hcrc _ (hstatus _ (foldl_keeps P _ _ _ hs (fun w e _ hw => hslot w e hw)))

end Sys2Proof.Machine
end

