-- ==== Sys2Proof/Laws/Processing.lean ====
section
/-! SUPPORT. What keeping the state for the held READ_CARD requests does: for which frames, what it keeps, and what READ_CARD reads of it
(R33, R34). -/

namespace Sys2Proof.Machine

/-- Which requests are held: a READ_CARD behind the head, with no view kept for it (R33). -/
theorem State.mem_heldCards (s : State) (i : Nat) :
    i ∈ s.heldCards ↔
      i ≠ 0 ∧ (∃ f, s.buffer[i]? = some f ∧ isCardRequest s.nodeAddr f = true) ∧ ∀ v ∈ s.cardViews, v.place ≠ i := by
  have key : ∀ f : Frame, (f, i) ∈ s.buffer.tail.zipIdx 1 ↔ i ≠ 0 ∧ s.buffer[i]? = some f := by
    intro f
    rw [List.mem_zipIdx_iff_le_and_getElem?_sub, List.getElem?_tail]
    constructor
    · rintro ⟨h, e⟩; exact ⟨by omega, by rwa [Nat.sub_add_cancel h] at e⟩
    · rintro ⟨h, e⟩; exact ⟨by omega, by rwa [Nat.sub_add_cancel (Nat.pos_of_ne_zero h)]⟩
  simp only [State.heldCards, List.mem_map, List.mem_filter, Prod.exists, exists_eq_right, key, Bool.and_eq_true, Bool.not_eq_true',
    List.any_eq_false, decide_eq_true_eq]
  exact ⟨fun ⟨f, ⟨h0, hf⟩, hc, hv⟩ => ⟨h0, ⟨f, hf, hc⟩, hv⟩, fun ⟨h0, ⟨f, hf, hc⟩, hv⟩ => ⟨f, ⟨h0, hf⟩, hc, hv⟩⟩

/-- Nothing but the views changes. -/
theorem State.holdViews_frame (s : State) : { s.holdViews with cardViews := s.cardViews } = s := rfl

@[simp] theorem State.holdViews_cardViews (s : State) : s.holdViews.cardViews = s.cardViews ++ s.heldCards.map s.cardView := rfl

@[simp] theorem State.cardView_place (s : State) (i : Nat) : (s.cardView i).place = i := rfl
@[simp] theorem State.cardView_webs (s : State) (i : Nat) (l : Lane) : (s.cardView i).webs[l] = (s.lane l).web := by
  simp [State.cardView, State.lane]

/-- READ_CARD sees the view kept for its frame, the first of place 0 (R33). -/
theorem State.readView_kept (s : State) (before after : List CardView) (v : CardView) (h : s.cardViews = before ++ v :: after)
    (h0 : v.place = 0) (hb : ∀ x ∈ before, x.place ≠ 0) : s.readView = v := by
  rw [State.readView, h, List.find?_append, List.find?_eq_none.2 (by simpa using hb)]
  simp [h0]

/-- With no view kept for its frame READ_CARD sees the state as it stands (R33). -/
theorem State.readView_none (s : State) (h : ∀ x ∈ s.cardViews, x.place ≠ 0) : s.readView = s.cardView 0 := by
  rw [State.readView, List.find?_eq_none.2 (by simpa using h)]
  rfl

/-- READ_CARD changes nothing (R33, R34). -/
@[simp] theorem decideReadCard_state (d : List Byte) (s : State) : (decideReadCard d s).state = s := by
  unfold decideReadCard refuseFormat refuse
  split
  · rfl
  · split
    · rfl
    · split
      · rfl
      · split <;> rfl

end Sys2Proof.Machine
end

