-- ==== Sys2Proof/WellFormed.lean ====
section
/-! DEFINITION. Which commands are well formed. Most operands are well formed by their types (a lane, a raw code, strap
levels); any bytes can arrive as a frame. What is left are the lists that say in which order concurrent work came about. -/

namespace Sys2Proof

/-- How many stages of lane `l`'s pitch step a list of ticks holds. -/
def stageTicks (l : Lane) (ts : List Tick) : Nat := ts.countP (fun t => t = .stage l)

/-- A pitch step has seven stages (R55), so no lane takes more than seven. -/
def ticksWellFormed (ts : List Tick) : Bool := (List.finRange 6).all (fun l => stageTicks l ts ≤ 7)

/-- The continuity handling of a lane at a gap has three parts (R135, R136, R137), so no lane takes more than three. -/
def gapOrderWellFormed (ls : List Lane) : Bool := (List.finRange 6).all (fun l => ls.count l ≤ 3)

/-- READ_ZONES reads six zones (R113), so there are six moments before a reading. -/
def duringWellFormed (d : List (List RawCode)) : Bool := d.length ≤ 6

/-- Well-formed commands. -/
def Instr.wellFormed : Instr → Bool
  | .cycleFrame gapOrder ticks => gapOrderWellFormed gapOrder && ticksWellFormed ticks
  | .readZones during => duringWellFormed during
  | .deviceReset _ _ | .frameArrival _ | .frameDeparture | .frameProcessing | .pitchCountSaturation | .conversionEnd _
  | .zoneFaultEntryAfterStep _ | .identify | .readState | .mapSlot | .readSlotMap | .setStations | .readStations
  | .loadRecipe | .readRecipe | .switchBank | .switchBankCancel | .laneRun | .laneDrain | .lanePurge | .laneClear
  | .laneChangeover | .forceOn | .forceOff | .autoPurgeOn | .autoPurgeOff | .readCard | .readCounters | .clearCounters
  | .readAlarms | .setAlarmMasks | .setZone | .setRole | .restart | .unknownRequest | .resetAsserted
  | .supplyRemoved => true

end Sys2Proof
end

