-- ==== Sys2Proof/Tests/Slice0.lean ====
section
/-! SUPPORT. Tests on small concrete states, and for every statement with hypotheses a witness: a state and operands that meet them, each
clause at a boundary of its range. Expected values are the manual's worked examples and tables, or worked out by hand from its rules. -/

namespace Sys2Proof.Tests

open Sys2Proof Sys2Proof.Machine Sys2Proof.Safety

-- One theorem at a time: each closed term is evaluated by the kernel.
set_option Elab.async false

/-! ## The small states -/

/-- The Station Map of section 1.1. -/
def map0 : StationMap := ⟨3, 7, 12, 18, 24, 2, 3, 96, 40, 25, 150, 12000⟩

/-- The recipe of section 6.5, with a batch of 10 cards; the run-end close mode is a parameter. -/
def pack (mode : CloseMode) : Recipe :=
  ⟨0x24040010, 2, [4, 4], 1800, 1950, 140, 150, 18000, 200, 800, 13, 26, 105, [20, 10, 0, 0, 0, 0, -8, -20], 10, mode⟩

/-- The eleven uses of lane 2 and the status slot in slots 0 to 11, as in the procedure of section 11.8. -/
def map2 : Vector SlotUse 48 :=
  ⟨(([.command .load 2, .command .inspect 2, .command .card 2, .command .sealing 2, .command .gate 2, .command .stack 2,
     .report .load 2, .report .inspect 2, .report .card 2, .report .sealing 2, .report .gate 2, .status] : List SlotUse) ++
    List.replicate 36 SlotUse.unused).toArray, by decide⟩

/-- A part set up for lane 2, every lane IDLE. -/
def ready : State :=
  { State.reset with stations := some map0, slotMap := map2, bankA := State.reset.bankA.set 3 ⟨some (pack .runEnd), 0⟩ }

/-- Lane 2 in a state, with an entry assigned. -/
def lane2 (st : LaneState) (f : LaneRec → LaneRec := id) (s : State := ready) : State :=
  s.setLane 2 (f { LaneRec.reset with state := st, assigned := 3 })

/-- A card of lane 2 with serial 100, formed at 1300, as in section 2.7. -/
def card0 : Card :=
  { record := 0, serial := 100, lane := 2, formed := 1300, bank := .A, entry := 3, sku := 0x24040010,
    commanded := ⟨false, false, false, false⟩, loadResult := none, inspection := none, placed := none, sealRec := none,
    reasons := [], gateIndex := none }

/-- Lane 2 in RUN with that card alone on its web list; bank A entry 3 counts it. -/
def tracking (c : Card := card0) (k : Index := 1300) : State :=
  { lane2 .run (fun r => { r with web := [c] }) with
    lastIndex := some k
    free := (List.finRange 256).tail
    bankA := ready.bankA.set 3 ⟨some (pack .runEnd), 1⟩ }

/-- The card as a gate list entry that joined at 1324. -/
def gated : Card := { card0 with reasons := [.weightOut], gateIndex := some 1324 }

/-- Lane 2 in RUN with that entry alone on the gate list. -/
def gating (k : Index := 1324) : State :=
  { lane2 .run with
    lastIndex := some k
    free := (List.finRange 256).tail
    gate := [gated]
    bankA := ready.bankA.set 3 ⟨some (pack .runEnd), 1⟩ }

/-- A service frame with this destination, request code and operand; its CRC is not looked at once it has been handed on. -/
def request (dest code : Byte) (d : List Byte) : Frame := [0x5A, dest, 0, code, 7, 0, 0, 0] ++ padTo 48 d ++ [0, 0]

/-- A frame handed on to the Service Unit. -/
def asked (f : Frame) (s : State) : State := { s with buffer := [f], phase := .service }

/-- A cycle frame with this many empty slots and this index. -/
def cycle (n : Nat) (k : Index) : Frame := [0xC1, byteOf n] ++ bytes16 k ++ List.replicate (4 + 16 * n) 0 ++ [0, 0]

/-- A frame handed on to tracking. -/
def arrived (f : Frame) (s : State) : State := { s with buffer := [f], phase := .cycle }

/-- The state a command leads to. -/
def after (c : Instr) (s : State) : State := match exec c s with | .next t => t | .fault _ | .refused _ => s

/-- The reply to a request: its status byte and the first `n` data bytes. -/
def reply (c : Instr) (code : Byte) (d : List Byte) (n : Nat) (s : State) : Byte × List Byte :=
  let f := (after c (asked (request 12 code d) s)).buffer.headD []
  (byteAt f 5, (serviceData f).take n)

/-! ## Well-formed commands -/

theorem test_wellFormed_stage_more_than_seven_times : (Instr.cycleFrame [] (List.replicate 8 (.stage 2))).wellFormed = false := by decide
theorem test_wellFormed_lane_more_than_three_parts : (Instr.cycleFrame [1, 1, 1, 1] []).wellFormed = false := by decide
theorem test_wellFormed_more_than_six_readings : (Instr.readZones [[], [], [], [], [], [], []]).wellFormed = false := by decide
theorem test_wellFormed_accepts : (Instr.cycleFrame [1, 1, 1] (List.replicate 7 (.stage 2) ++ [.conversion 0])).wellFormed = true ∧
    (Instr.readZones [[], [], [], [], [], [600]]).wellFormed = true := by decide
/-- The table gives no row any bits. -/
theorem test_decode_none : decodeTableWord 0 0 = none ∧ decodeTableWord 16 0x1234 = none := by decide

/-! ## The manual's worked values -/

/-- The check value of the CRC of R153 over the nine digits. -/
theorem test_crc : crc16 [0x31, 0x32, 0x33, 0x34, 0x35, 0x36, 0x37, 0x38, 0x39] = 0x29B1 := by decide +kernel
/-- R11's table. -/
theorem test_reached : reached 1000 999 = false ∧ reached 1000 1000 = true ∧ reached 65534 2 = true ∧ reached 2 65534 = false ∧
    reached 1000 33767 = true ∧ reached 1000 33768 = false := by decide
/-- Section 1.3's example, frames 501 to 510. -/
theorem test_pitch_average : ([11800, 12200, 12400, 12010, 65535, 12030, 50000, 47000].foldl (fun t c => t.offer c)
    (⟨0, none, false⟩ : PitchTimer)) = ⟨0, some 20768, false⟩ := by decide +kernel
/-- Section 6.5: Z = 1875. -/
theorem test_seal_ok : sealDwell (pack .fixed) map0 12000 .ready 1875 = (379, .ok) := by decide +kernel
/-- Section 6.5: the profile. -/
theorem test_seal_pressures : pressures map0 (pack .fixed) = [121, 113, 105, 105, 105, 105, 98, 89] := by decide +kernel
/-- Section 2.7: the segments of D = 379. -/
theorem test_seal_segments : (List.range 8).map (segmentDuration 379) = [47, 47, 48, 47, 47, 48, 47, 48] := by decide +kernel
/-- Section 7.5, conversions 1 to 7 of zone 2, with its offset and hold limit. -/
theorem test_zone_history : ([623, 625, 624, 626, 630, 1023, 631].foldl (fun z c => z.convert c (-3) 3)
    { Zone.reset with offset := -3, limit := 3 }) = ⟨-3, 3, [621, 623, 627, 628], 1874, .ready, 0⟩ := by decide +kernel

/-! ## One step of each command -/

theorem test_deviceReset : (after (.deviceReset 5 false) (tracking)).role = .monitor ∧
    (after (.deviceReset 62 true) (tracking)).role = .bypass := by decide +kernel
theorem test_resetAsserted : (after .resetAsserted ready).bypdrv = false ∧ (after .resetAsserted ready).power = .heldInReset := by
  decide +kernel
theorem test_supplyRemoved : (after .supplyRemoved ready).bypdrv = false ∧ (after .supplyRemoved ready).stations = none := by
  decide +kernel
/-- R144: a fifth frame is discarded. -/
theorem test_frameArrival_full : (after (.frameArrival (cycle 1 9)) { ready with buffer := List.replicate 4 (cycle 1 8) }).ring.discarded = 1 := by
  decide +kernel
theorem test_frameArrival_too_long : (after (.frameArrival (List.replicate 779 0)) ready).chipAlarms[1].latch = some [0, 2, 0, 0, 0] := by
  decide +kernel
theorem test_frameDeparture : (after .frameDeparture { ready with buffer := [cycle 1 9, cycle 1 8], phase := .sending }).ringOut =
    some (cycle 1 9) := by decide +kernel
/-- R145: a frame with a bad CRC is forwarded and counted; a good cycle frame is handed on. -/
theorem test_frameProcessing : (after .frameProcessing { ready with buffer := [cycle 1 9] }).ring.crcErrors = 1 ∧
    (after .frameProcessing { ready with buffer := [withCrc (cycle 1 9)] }).phase = .cycle := by decide +kernel
/-- R29: the first frame's card of a lane in RUN takes record 0 and the first serial. -/
theorem test_cycleFrame_first_card : ((after (.cycleFrame [] []) (arrived (cycle 12 1300) (lane2 .run))).lane 2).web =
    [{ card0 with serial := 0 }] := by decide +kernel
/-- R86, R150: at position a = 3 the loader is commanded LOAD with the expected counts 4, 4. -/
theorem test_cycleFrame_load_command : slotBytes ((after (.cycleFrame [] []) (arrived (cycle 12 1303) (tracking card0 1302))).buffer.headD []) 0 =
    [0x10, 12, 1, 0, 0, 100, 2, 0x44, 0, 0, 0, 0, 0, 0, 0, 0] := by decide +kernel
theorem test_pitchCountSaturation : (after .pitchCountSaturation ready).timer.count = 65535 := by decide +kernel
theorem test_conversionEnd : ((after (.conversionEnd 625) ready).zone 0).history = [625] ∧ (after (.conversionEnd 625) ready).conv.zone = 1 := by
  decide +kernel
theorem test_zoneFaultEntryAfterStep : ((after (.zoneFaultEntryAfterStep 2)
    (lane2 .drain (fun r => { r with faultDue := true }))).lane 2).state = .fault := by decide +kernel
/-- Section 11.8, step 1. -/
theorem test_identify : reply .identify 0x01 [] 9 ready = (0x01, [0x5E, 0x2A, 0x36, 0x16, 0x01, 12, 2, 0, 0]) := by decide +kernel
theorem test_readState_page1 : reply .readState 0x02 [1] 13 (tracking) = (0x01, [2, 0, 0, 0, 0, 0, 0, 0, 0, 1, 0x05, 0x14, 1]) := by decide +kernel
theorem test_readState_no_page : (reply .readState 0x02 [2] 1 ready).1 = 0x82 := by decide +kernel
theorem test_mapSlot : reply .mapSlot 0x10 [1, 12, 0x43] 14 ready =
    (0x01, [0x42, 0x4A, 0x52, 0x5A, 0x62, 0x6A, 0x82, 0x8A, 0x92, 0x9A, 0xA2, 0xC0, 0x43, 0]) := by decide +kernel
theorem test_mapSlot_duplicate : (reply .mapSlot 0x10 [1, 12, 0x42] 1 ready).1 = 0x86 := by decide +kernel
theorem test_readSlotMap : reply .readSlotMap 0x11 [] 3 ready = (0x01, [0x42, 0x4A, 0x52]) := by decide +kernel
/-- Section 1.1, steps 2 to 4. -/
theorem test_setStations : (after .setStations (asked (request 12 0x12 [3, 7, 12, 18, 24, 2, 3, 96, 0, 40, 25, 150, 0x2E, 0xE0])
    State.reset)).stations = some map0 := by decide +kernel
theorem test_setStations_order : (reply .setStations 0x12 [3, 7, 7, 18, 24, 2, 3, 96, 0, 40, 25, 150, 0x2E, 0xE0] 1 ready).1 = 0x82 := by
  decide +kernel
theorem test_readStations : reply .readStations 0x13 [] 15 ready =
    (0x01, [1, 3, 7, 12, 18, 24, 2, 3, 96, 0, 40, 25, 150, 0x2E, 0xE0]) := by decide +kernel
theorem test_loadRecipe : reply .loadRecipe 0x14 ([1, 3, 1] ++ (pack .runEnd).bytes) 4 ready = (0x01, [1, 3, 1, 0]) := by decide +kernel
theorem test_loadRecipe_active_bank : (reply .loadRecipe 0x14 ([0, 3, 1] ++ (pack .runEnd).bytes) 4 ready).1 = 0x83 := by decide +kernel
theorem test_readRecipe : reply .readRecipe 0x15 [0, 3] 12 (tracking) = (0x01, [0, 3, 1, 1, 0x24, 0x04, 0x00, 0x10, 2, 0x44, 0, 0]) := by
  decide +kernel
/-- Section 11.8, step 9. -/
theorem test_switchBank : reply .switchBank 0x16 [1, 0x01, 0xE0] 4 ready = (0x02, [0, 1, 0x01, 0xE0]) := by decide +kernel
theorem test_switchBankCancel_none : reply .switchBankCancel 0x16 [2] 4 ready = (0x83, [0, 0, 0, 0]) := by decide +kernel
/-- Section 11.8, step 11. -/
theorem test_laneRun : reply .laneRun 0x20 [2, 1, 3] 4 ready = (0x01, [2, 1, 3, 0xFF]) := by decide +kernel
theorem test_laneRun_empty_entry : (reply .laneRun 0x20 [2, 1, 4] 1 ready).1 = 0x82 := by decide +kernel
theorem test_laneDrain : reply .laneDrain 0x20 [2, 2] 2 (lane2 .run) = (0x01, [2, 2]) := by decide +kernel
theorem test_lanePurge : ((after .lanePurge (asked (request 12 0x20 [2, 3]) (tracking))).lane 2).web.map Card.reasons =
    [[.lanePurge]] := by decide +kernel
theorem test_laneClear_run : (reply .laneClear 0x20 [2, 4] 1 (lane2 .run)).1 = 0x83 := by decide +kernel
theorem test_laneClear : ((after .laneClear (asked (request 12 0x20 [2, 4]) (lane2 .fault))).lane 2).state = .idle := by decide +kernel
theorem test_laneChangeover : reply .laneChangeover 0x20 [2, 5, 4, 0x05, 0x14] 6 (lane2 .run) = (0x02, [2, 1, 3, 4, 0x05, 0x14]) := by
  decide +kernel
theorem test_forceOn : ((after .forceOn (asked (request 12 0x20 [2, 6]) ready)).lane 2).force = true := by decide +kernel
theorem test_forceOff : ((after .forceOff (asked (request 12 0x20 [2, 7]) (lane2 .run (fun r => { r with force := true })))).lane 2).force =
    false := by decide +kernel
theorem test_autoPurgeOn : ((after .autoPurgeOn (asked (request 12 0x20 [2, 8]) ready)).lane 2).autoPurge = true := by decide +kernel
theorem test_autoPurgeOff : ((after .autoPurgeOff (asked (request 12 0x20 [2, 9])
    (lane2 .run (fun r => { r with autoPurge := true })))).lane 2).autoPurge = false := by decide +kernel
/-- Section 2.7's card at position 19, as far as this small state holds it. -/
theorem test_readCard : reply .readCard 0x21 [2, 19] 16 (tracking card0 1319) =
    (0x01, [1, 0, 0, 0, 100, 2, 0x05, 0x14, 0, 19, 0, 3, 0x24, 0x04, 0x00, 0x10]) := by decide +kernel
theorem test_readCard_blank : reply .readCard 0x21 [2, 18] 4 (tracking card0 1319) = (0x01, [0, 0, 0, 0]) := by decide +kernel
theorem test_readCounters : reply .readCounters 0x22 [2, 0] 4 (lane2 .run (fun r => { r with counters := r.counters.set 0 0x01020304 })) =
    (0x01, [1, 2, 3, 4]) := by decide +kernel
theorem test_clearCounters : reply .clearCounters 0x23 [5] 2 ready = (0x01, [5, 0]) ∧ (reply .clearCounters 0x23 [6] 1 ready).1 = 0x82 := by
  decide +kernel
/-- Sections 12.1 and 12.2: after device reset no latch; TRACK_LOST and REJECT_UNCONFIRMED have their stop-enable fixed on. -/
theorem test_readAlarms : (reply .readAlarms 0x30 [2] 19 ready).2 = [2, 0x0C, 0, 0, 0, 0, 0, 0x0C, 0, 0, 0, 0, 0, 0x1C, 0, 0, 0, 0, 0] := by
  decide +kernel
theorem test_setAlarmMasks : reply .setAlarmMasks 0x31 [2, 0x01, 0x02] 4 ready = (0x01, [2, 0x01, 0x26, 0x24]) := by decide +kernel
/-- Section 7.5: offset −3 and hold limit 3. -/
theorem test_setZone : reply .setZone 0x40 [2, 0x83, 3] 7 ready = (0x01, [2, 0x83, 3, 1, 0, 0, 0]) := by decide +kernel
theorem test_readZones : reply (.readZones []) 0x41 [] 8 ready = (0x01, [1, 0, 0, 0, 0, 0, 16, 1]) := by decide +kernel
theorem test_setRole : (after .setRole (asked (request 12 0x50 [1]) ready)).pendingRole = some .monitor := by decide +kernel
theorem test_restart : (after .restart (asked (request 12 0x5F []) (tracking))).free.length = 256 ∧
    ((after .restart (asked (request 12 0x5F []) (tracking))).lane 2).state = .idle := by decide +kernel
theorem test_unknownRequest : (reply .unknownRequest 0x03 [] 1 ready).1 = 0x81 := by decide +kernel

/-! ## Witnesses: the machine as a whole, the Frame Buffer, alarms -/

/-- A state off the ring. -/
def held : State := { ready with power := .heldInReset }

/-- A READ_CARD frame, at broadcast and under the node address. -/
def cardFrame (dest : Byte) : Frame := request dest 0x21 [2, 0]

theorem witness_StepRunsFrontCommand : ({ ready with pending := [.identify, .frameDeparture] } : State).pending = .identify :: [.frameDeparture] :=
  rfl
theorem witness_CommandsKeepQueue : exec .frameDeparture State.reset = .next State.reset ∧
    exec .pitchCountSaturation State.reset = .next { State.reset with timer := ⟨65535, none, false⟩ } := ⟨rfl, rfl⟩
theorem witness_PitchCountRunsAndSaturates :
    (ready.pending = [] ∧ InOperation ready ∧ ready.timer.count < 65535) ∧
    (InOperation { ready with timer := ⟨65534, none, false⟩ } ∧ 65534 < 65535) ∧
    (InOperation { ready with timer := ⟨65535, none, false⟩ } ∧ 65535 ≤ ({ ready with timer := ⟨65535, none, false⟩ } : State).timer.count) ∧
    held.pending = [] ∧ ¬ InOperation held := by decide +kernel
theorem witness_ResetsAndSupply : held.power ≠ .unpowered ∧ ({ held with power := .unpowered } : State).power = .unpowered := by decide +kernel
theorem witness_NothingChangesWithoutOccasion :
    (¬ InOperation held ∧ actsOffRing .identify = false) ∧
    (requestFor .identify = some .identify ∧ ready.phase ≠ .service) ∧
    ({ ready with phase := .service } : State).buffer = [] ∧
    ((asked (cardFrame 12) ready).buffer = cardFrame 12 :: [] ∧ requestOf (cardFrame 12) ≠ .identify) ∧
    ready.phase ≠ .sending ∧ ({ ready with phase := .sending } : State).buffer = [] ∧ ready.buffer = [] ∧
    ({ ready with phase := .sending } : State).phase ≠ .waiting ∧ ready.phase ≠ .cycle ∧ held.power ≠ .running := by decide +kernel

/-- A frame with a good CRC waits at the head of the buffer. -/
def waits (f : Frame) : State := { ready with buffer := [withCrc f] }

/-- The state between frames 1319 and 1320: a good cycle frame waits, and behind it a READ_CARD of card 0, one to broadcast and another
request. -/
def behind : State :=
  { tracking card0 1319 with
    buffer := [withCrc (cycle 1 1320), withCrc (request 12 0x21 [2, 19]), withCrc (cardFrame 63), withCrc (request 12 1 [])] }

/-- R33: the state is kept for the READ_CARD behind the cycle frame, also behind a LANE PURGE that waits with it. -/
theorem test_heldCards : behind.holdViews.cardViews = [⟨1, some 1319, some map0, #v[[], [], [card0], [], [], []], []⟩] ∧
    ({ behind with buffer := behind.buffer.insertIdx 1 (withCrc (request 63 0x20 [2, 3])) } : State).heldCards = [2] := by decide +kernel
/-- R33, R54: at a repeat nothing is kept for the READ_CARD; at the next index it is. -/
theorem test_handOnCycle : (behind.handOnCycle (cycle 1 1319)).cardViews = [] ∧
    (after .frameProcessing behind).cardViews.map CardView.place = [1] := by decide +kernel
/-- A READ_CARD at the head for which the state between frames 1318 and 1319 was kept, on the state a command has left. -/
def late (s : State) : State := { s with cardViews := [(tracking card0 1319).cardView 1] }
/-- R33: the READ_CARD sees the kept state, whatever the state has become; the view goes to the head with its frame. -/
theorem test_readCard_kept : reply .readCard 0x21 [2, 19] 2 { ready with cardViews := [(tracking card0 1319).cardView 0] } = (0x01, [1, 0]) ∧
    (after .frameDeparture { behind with cardViews := [behind.cardView 0, behind.cardView 2], phase := .sending }).cardViews =
      [behind.cardView 1] := by decide +kernel
/-- R44, R160: LANE PURGE marks the card in the kept state when it marks it on the web, and no card that has left it. -/
theorem test_purge_kept :
    (after .lanePurge (asked (request 12 0x20 [2, 3]) (late (tracking card0 1320)))).cardViews.map (fun v => v.webs[2].map Card.reasons) =
      [[[.lanePurge]]] ∧
    (after .lanePurge (asked (request 12 0x20 [2, 3]) (late (lane2 .run)))).cardViews.map (fun v => v.webs[2].map Card.reasons) = [[[]]] := by
  decide +kernel
/-- R160, R170: behind RESTART no card is found in the kept state. -/
theorem test_restart_kept : (after .restart (asked (request 12 0x5F []) (late (tracking)))).cardViews =
    [⟨1, none, some map0, Vector.replicate 6 [], []⟩] := by decide +kernel
theorem witness_FrameBufferAndCheck_held :
    (InOperation behind ∧ behind.phase = .waiting ∧ behind.lastIndex ≠ some (word16 (withCrc (cycle 1 1320)) 2) ∧
      behind.lastIndex = some (word16 (withCrc (cycle 1 1319)) 2)) ∧
    (let g := withCrc (request 12 0x21 [2, 19]); behind.buffer[1]? = some g ∧ crcGood g = true ∧ byteAt g 0 = 0x5A ∧ g.length = 58 ∧
      natAt g 1 = behind.nodeAddr.toNat ∧ natAt g 1 ≠ 63 ∧ natAt g 3 = 0x21 ∧ behind.cardViews = []) := by decide +kernel
theorem witness_FrameBufferAndCheck :
    InOperation { ready with buffer := List.replicate 3 [1, 2, 3] } ∧ InOperation { ready with buffer := List.replicate 4 [1, 2, 3] } ∧
    ((List.replicate 3 0#8).length = 3 ∧ (List.replicate 778 0#8).length = 778 ∧ (List.replicate 2 0#8).length < 3 ∧
      778 < (List.replicate 779 0#8).length) ∧
    (({ ready with buffer := [[1, 2, 3]], phase := .sending } : State).buffer = [1, 2, 3] :: []) ∧
    (InOperation (waits []) ∧ (waits []).phase = .waiting) ∧ crcGood (cycle 1 9) = false ∧
    (let f := withCrc (cycle 1 9); crcGood f = true ∧ byteAt f 0 = 0xC1 ∧ natAt f 1 = 1 ∧ f.length = 10 + 16 * 1) ∧
    (let f := withCrc (cycle 48 9); crcGood f = true ∧ byteAt f 0 = 0xC1 ∧ natAt f 1 = 48 ∧ f.length = 10 + 16 * 48) ∧
    (let f := withCrc (cycle 0 9); crcGood f = true ∧ byteAt f 0 = 0xC1 ∧ ¬ 1 ≤ natAt f 1) ∧
    (let f := withCrc (request 12 1 []); crcGood f = true ∧ byteAt f 0 = 0x5A ∧ f.length = 58 ∧ natAt f 1 = ready.nodeAddr.toNat) ∧
    (let f := withCrc (request 63 1 []); crcGood f = true ∧ byteAt f 0 = 0x5A ∧ f.length = 58 ∧ natAt f 1 = 63) ∧
    (let f := withCrc (request 13 1 []); crcGood f = true ∧ byteAt f 0 = 0x5A ∧ f.length = 58 ∧
      ¬ (natAt f 1 = ready.nodeAddr.toNat ∨ natAt f 1 = 63)) ∧
    (let f := withCrc [0x5A, 12, 0, 0]; crcGood f = true ∧ byteAt f 0 = 0x5A ∧ f.length ≠ 58) ∧
    (let f := withCrc [1, 0, 0]; crcGood f = true ∧ byteAt f 0 ≠ 0xC1 ∧ byteAt f 0 ≠ 0x5A) := by decide +kernel
theorem witness_ReplyAndCountFrames : (request 63 1 []).length = 58 ∧ ((request 63 1 []).set 6 255).length = 58 := by decide +kernel
theorem witness_BroadcastExecutesAsAddressed :
    (requestFor .readCard = some .readCard ∧ HandsService (asked (cardFrame 63) ready) (cardFrame 63) [] .readCard ∧
      (cardFrame 63).length = 58 ∧ byteAt (cardFrame 63) 1 = 63 ∧ Request.readCard.isRead = true) ∧
    (let f := request 63 0x50 [1]
     requestFor .setRole = some .setRole ∧ HandsService (asked f ready) f [] .setRole ∧ f.length = 58 ∧ byteAt f 1 = 63 ∧
       Request.setRole.isRead = false ∧ (asked f ready).nodeAddr.toNat ≠ 63) := by decide +kernel
theorem witness_LatchingAnAlarm : (ready.lane 2).alarms[LaneAlarm.zoneFault.place].latch = none ∧
    ((ready.latchLane 2 .zoneFault [1]).lane 2).alarms[LaneAlarm.zoneFault.place].latch.isSome = true ∧
    ready.chipAlarms[ChipAlarm.frameCrc.place].latch = none ∧
    (ready.latchChip .frameCrc [1]).chipAlarms[ChipAlarm.frameCrc.place].latch.isSome = true ∧
    ready.stopPresent = false ∧ (ready.lane 2).alarms[LaneAlarm.trackLost.place].stopEn = true := by decide +kernel

/-! ## Witnesses: index numbers, the Pitch Timer, the cycle frame -/

theorem witness_ClassesAndReachedTest : indexDistance 65535 65535 = 0 ∧ indexDistance 65535 0 = 1 ∧ indexDistance 65535 1 = 2 ∧
    indexDistance 65535 7 = 8 ∧ indexDistance 65535 8 = 9 ∧ indexDistance 1 0 = 65535 ∧ 65535 < 65536 := by decide +kernel
theorem witness_PitchAverageFold :
    ((⟨0, none, false⟩ : PitchTimer).average = none ∧ 65534 < 65535) ∧
    ((⟨0, some 100, false⟩ : PitchTimer).average = some 100 ∧ 100 ≤ 100 ∧ 400 ≤ 4 * 100 ∧ 4 * 100 < 401) ∧
    ((⟨0, some 65535, false⟩ : PitchTimer).average = some 65535 ∧ 65535 ≤ 65535 ∧ 65534 ≤ 4 * 65535) := by decide +kernel

/-- A cycle frame with `n` slots and index 1301 handed on while the last index is `last`. -/
def cycling (n : Nat) (last : Option Index) : State := arrived (cycle n 1301) { tracking with lastIndex := last }

theorem witness_CycleFrameCompletes :
    (HandsCycle (cycling 1 none) (cycle 1 1301) [] ∧ 1 ≤ slotCount (cycle 1 1301) ∧ (cycle 1 1301).length = 10 + 16 * slotCount (cycle 1 1301)) ∧
    (HandsCycle (cycling 48 (some 1300)) (cycle 48 1301) [] ∧ slotCount (cycle 48 1301) ≤ 48 ∧
      (cycle 48 1301).length = 10 + 16 * slotCount (cycle 48 1301)) ∧
    ((47 : Fin 48) < slotCount (cycle 48 1301) ∧ (cycling 48 none).slotMap[47] = .unused) ∧
    indexDistance 1300 (frameIndex (cycle 48 1301)) = 1 ∧ indexDistance 1299 (frameIndex (cycle 48 1301)) ≠ 1 := by decide +kernel
theorem witness_CycleFrameSequence :
    (HandsCycle (cycling 1 none) (cycle 1 1301) [] ∧ (cycling 1 none).lastIndex = none) ∧
    indexDistance 1301 (frameIndex (cycle 1 1301)) = 0 ∧
    indexDistance 1300 (frameIndex (cycle 1 1301)) = 1 ∧ indexDistance 1299 (frameIndex (cycle 1 1301)) = 2 ∧
    indexDistance 1293 (frameIndex (cycle 1 1301)) = 8 ∧ indexDistance 1292 (frameIndex (cycle 1 1301)) = 9 ∧
    (1 ≤ (stepCtx (cycle 1 1301) .first).firstStage ∧ (stepCtx (cycle 1 1301) .lost).firstStage = 4 ∧
      (stepCtx (cycle 1 1301) .again).firstStage = 8) ∧
    ((⟨ready, #v[7, 8, 1, 1, 1, 1]⟩ : Steps).next[(0 : Lane)] ≤ 7 ∧ 7 < (⟨ready, #v[7, 8, 1, 1, 1, 1]⟩ : Steps).next[(1 : Lane)]) := by
  decide +kernel
/-- R54: with no ticks a first frame runs every stage, one of lost track none before stage 4: a card is created, or no reason added. -/
theorem test_first_stage :
    ((runPitchSteps (stepCtx (cycle 12 1300) .first) [] (lane2 .run)).lane 2).web = [{ card0 with serial := 0 }] ∧
    ((runPitchSteps (stepCtx (cycle 12 1301) .lost) [] ((tracking).updLane 2 (fun r => { r with state := .fault }))).lane 2).web = [card0] := by
  decide +kernel
theorem witness_RepeatChangesNoTracking : HandsCycle (cycling 1 (some 1301)) (cycle 1 1301) [] ∧
    (cycling 1 (some 1301)).lastIndex = some (frameIndex (cycle 1 1301)) := by decide +kernel
theorem witness_noConversions : ∀ raw, Tick.conversion raw ∉ ([.stage 2] : List Tick) := by simp

/-! ## Witnesses: zones and seals -/

theorem witness_ConversionMovesItsZone : ready.power = .running ∧ ZonesSound ready ∧ (0#10).toNat = 0 ∧ (1023#10).toNat = 1023 ∧
    0 < (1#10).toNat ∧ (1022#10).toNat < 1023 := by decide +kernel

/-- Lane 0 in RUN, and zone 0 in WARMING with one invalid code to go. -/
def faulting : State := { ready.setLane 0 { LaneRec.reset with state := .run } with conv := ⟨0, 0, 1⟩ }

theorem witness_ZoneFaultTakesLane :
    (((faulting.convert 0 (fun l => l = 0)).zone 0).state = .fault ∧ (decide ((0 : Lane) = 0)) = true ∧
      ((faulting.convert 0 (fun l => l = 0)).lane 0).state = .run ∧ ((faulting.convert 0 (fun l => l = 0)).lane 0).faultDue = true) ∧
    ((ready.convert 0 (fun _ => true)).lane 0).state = .idle ∧
    (faulting.power = .running ∧ (faulting.zone 0).state ≠ .fault ∧ ((after (.conversionEnd 0) faulting).zone 0).state = .fault ∧
      (faulting.lane 0).state ≠ .idle) ∧
    ((ready.zone 0).state ≠ .fault ∧ (ready.lane 0).state = .idle) ∧
    ((lane2 .run (fun r => { r with faultDue := true })).lane 2).faultDue = true ∧
    ((lane2 .idle (fun r => { r with faultDue := true })).lane 2).faultDue = true ∧ (ready.lane 2).faultDue = false := by decide +kernel
/-- Section 6.5's cases: every outcome is reached; the limits of the base pressure and of a segment offset. -/
theorem witness_SealCalculation : (pack .fixed).inRange = true ∧
    sealDwell (pack .fixed) map0 12000 .ready 1875 = (379, .ok) ∧ sealDwell (pack .fixed) map0 12000 .ready 2400 = (200, .overdose) ∧
    (sealDwell (pack .fixed) map0 12000 .ready 2350).2 = .clampedLow ∧
    sealDwell (pack .fixed) map0 12000 .ready 1830 = (410, .clampedHigh) ∧
    sealDwell (pack .fixed) map0 12000 .ready 1560 = (410, .underdose) ∧ sealDwell (pack .fixed) map0 12000 .ready 1549 = (0, .noHeat) ∧
    sealDwell (pack .fixed) map0 12000 .warming 1875 = (0, .noHeat) ∧
    sealDwell (pack .fixed) map0 6000 .ready 1875 = (0, .noWindow) ∧ map0.pMin ≤ map0.pMax ∧ 12 ≤ 12 ∧ 225 ≤ 225 ∧
    (-63 : Int) ≤ -63 ∧ (63 : Int) ≤ 63 := by decide +kernel

/-! ## Witnesses: the Tracking Store and the pitch step -/

theorem witness_CardRecordOperations : ((lane2 .run).lane 2).state = .run ∧ (lane2 .run).free = 0 :: (List.finRange 256).tail ∧
    ((lane2 .drain).lane 2).state ≠ .run ∧ gated.reasons.Nodup := by decide +kernel

/-- The card one frame after it was commanded LOAD at position 3. -/
def loading : Card := { card0 with commanded := ⟨true, false, false, false⟩ }
/-- The frame of index 1304 with a load report in slot 6. -/
def loadReport (serial : Byte) : Frame :=
  putSlot (cycle 12 1304) 6 (padTo 16 [0x20, 1, 0, 0, serial, 0x44])

theorem witness_DueReportOutcome :
    (ready.slotMap[6] = .report .load 2 ∧ (∀ j : Fin 48, j < 6 → ready.slotMap[j] ≠ .report .load 2) ∧ 6 < slotCount (cycle 7 1304) ∧
      slotCount (cycle 6 1304) ≤ 6) ∧ (∀ i : Fin 48, ready.slotMap[i] ≠ .report .load 1) ∧
    ((Kind.load : Kind) ≠ .gate ∧ Kind.load ≠ .stack ∧ ((tracking loading 1303).lane 2).web = [] ++ loading :: [] ∧
      loading.formed = 1304 - 1 - BitVec.ofNat 16 (ready.map.offset .load) ∧ loading.commanded.has .load = true) ∧
    (some (slotTag (ready.reportSlot (loadReport 100) .load 2)) = Kind.load.reportTag ∧
      word24 (slotPayload (ready.reportSlot (loadReport 100) .load 2)) 0 = loading.serial) ∧
    word24 (slotPayload (ready.reportSlot (loadReport 99) .load 2)) 0 ≠ loading.serial ∧
    (∀ c ∈ ((tracking card0 1303).lane 2).web, ¬ (c.formed = 1304 - 1 - BitVec.ofNat 16 (ready.map.offset .load) ∧
      c.commanded.has .load = true)) := by decide +kernel
theorem witness_ReportChecks : (pack .fixed).inRange = true ∧
    ({ card0 with sealRec := some ⟨1875, 475, 379, .ok, none, none⟩ } : Card).sealRec = some ⟨1875, 475, 379, .ok, none, none⟩ := by
  decide +kernel
/-- The frame of index 1325 with a gate report of 3 rejects seen in slot 10. -/
def gateReport (tag : Byte) : Frame := putSlot (cycle 11 1325) 10 (padTo 16 [tag, 1, 3])

theorem witness_GateCountConfirms :
    (ready.slotMap[10] = .report .gate 2 ∧ (∀ j : Fin 48, j < 10 → ready.slotMap[j] ≠ .report .gate 2) ∧
      10 < slotCount (gateReport 0x24) ∧ byteAt (gateReport 0x24) (8 + 16 * 10) = 0x24 ∧ ready.rejectsSeen (gateReport 0x24) 2 = 3 ∧
      byteAt (gateReport 0x23) (8 + 16 * 10) ≠ 0x24 ∧ ready.rejectsSeen (gateReport 0x23) 2 = 0 ∧ slotCount (cycle 10 1325) ≤ 10) ∧
    (∀ i : Fin 48, ready.slotMap[i] ≠ .report .gate 1) ∧ (gating.gateOf 2).length < 2 ∧ (gating.lane 2).blindAnswer = false ∧ (gating.gateOf 2).length = 1 := by
  decide +kernel
theorem witness_GateEntriesExpire : (ready.lane 2).state = .idle ∧ (gating.lane 2).state ≠ .idle ∧
    (∀ c ∈ gating.gate, c.gateIndex.isSome = true) ∧
    reached (gated.gateIndex.getD 0 + BitVec.ofNat 16 gating.map.g) 1326 = true ∧
    reached (gated.gateIndex.getD 0 + BitVec.ofNat 16 gating.map.g) 1325 = false := by decide +kernel

/-- Lane 2 in RUN with auto-purge set and this many silent loads. -/
def silent (n : Nat) (lost : Bool) : State :=
  lane2 .run (fun r => { r with silence := ⟨n, 0, 0, 0⟩, stationLost := lost, autoPurge := true })

theorem witness_StationLostEvaluation : (ready.lane 2).state = .idle ∧ ((silent 2 false).lane 2).state ≠ .idle ∧ ¬ (ready.map.silenceLimit ≤ 2) ∧ ready.map.silenceLimit ≤ ((silent 3 false).lane 2).silence.load ∧
    ((silent 3 false).lane 2).stationLost = false ∧ ((silent 3 true).lane 2).stationLost = true ∧
    ((silent 2 false).lane 2).silence.load = 2 := by decide +kernel

/-- Lane 2 in RUN with a changeover to an entry pending for index 1300. -/
def changing (e : EntryNo) : State := lane2 .run (fun r => { r with changeover := some ⟨e, 1300⟩ })

theorem witness_StageThree : ((lane2 .fault).lane 2).state = .fault ∧ (ready.lane 2).state = .idle ∧
    ((lane2 .run).lane 2).changeover = none ∧ ((changing 3).lane 2).state = .run ∧ ((changing 3).lane 2).changeover = some ⟨3, 1300⟩ ∧
    indexDistance 1300 1299 = 65535 ∧ indexDistance 1300 34068 = 32768 ∧ indexDistance 1300 34067 = 32767 ∧
    ((changing 3).entry .A 3).recipe.isSome = true ∧ ((changing 4).entry .A 4).recipe = none := by decide +kernel
/-- Lane 2 in a state that holds a run-end event. -/
def holding (st : LaneState) : State := lane2 st (fun r => { r with held := some ⟨.closeShort, 1, 4⟩ })

/-- R128: the held event comes first and is then cleared; an IDLE lane without one gets no STACK_CMD. -/
theorem test_stage4_held :
    (∀ x ∈ [LaneState.idle, .drain, .fault], let t := stage4 1301 2 (holding x)
      (t.lane 2).held = none ∧ (t.lane 2).plan.stack = some (.stack [⟨.closeShort, 1, 4⟩])) ∧
    ((stage4 1301 2 ready).lane 2).plan.stack = none := by decide +kernel
/-- R48, R128, R140: at lost track the STACK_CMD of a lane in FAULT carries the event it holds, and none of the step. -/
theorem test_stage4_lost :
    let t := (runPitchSteps (stepCtx (cycle 1 1301) .lost) [] (holding .fault)).lane 2
    t.held = none ∧ t.plan.stack = some (.stack [⟨.closeShort, 1, 4⟩]) := by decide +kernel
theorem witness_PunchDecision :
    0 < ((lane2 .fault (fun r => { r with blind := 1 })).lane 2).blind ∧
    (((lane2 .run).lane 2).blind = 0 ∧ ((lane2 .run).lane 2).web.head? = none) ∧
    (((tracking card0 1324).lane 2).web = card0 :: [] ∧ indexDistance card0.formed 1324 = ready.map.e ∧
      indexDistance card0.formed 1323 ≠ ready.map.e) ∧
    (((holding .fault).lane 2).state = .fault ∧ ((holding .fault).lane 2).held ≠ none ∧ ((holding .idle).lane 2).state ≠ .fault) ∧
    card0.reasons = [] ∧ ((tracking card0 1324).lane 2).force = false ∧ gated.reasons ≠ [] ∧
    ((after .forceOn (asked (request 12 0x20 [2, 6]) (tracking))).lane 2).force = true := by decide +kernel

/-- The lane record with an open batch of this SKU code, size and count. -/
def batching (sku : Sku) (size count : Nat) (mode : CloseMode := .runEnd) : LaneRec :=
  { LaneRec.reset with openBatch := some ⟨sku, size, mode, 1, count⟩ }

theorem witness_BatchEvents : 1 ≤ (pack .fixed).batchSize ∧ 1 ≤ ({ pack .fixed with batchSize := 1 } : Recipe).batchSize ∧
    LaneRec.reset.openBatch = none ∧ (⟨1, 10, .fixed, 1, 9⟩ : Batch).sku ≠ card0.sku ∧
    ((batching card0.sku 10 8).openBatch = some ⟨card0.sku, 10, .runEnd, 1, 8⟩ ∧ 8 + 1 ≠ 10) ∧
    ((batching card0.sku 10 9).openBatch = some ⟨card0.sku, 10, .runEnd, 1, 9⟩ ∧ 9 + 1 = 10) := by decide +kernel

/-- Lane 2 in a state over a map of entry 3 with the close mode "run end mark", with these planned stacker events. -/
def ending (st : LaneState) (events : List StackEvent) : State :=
  lane2 st (fun r => { r with plan := { LanePlan.none with stack := some (.stack events) } })
    { ready with bankA := ready.bankA.set 3 ⟨some (pack .runEndMark), 0⟩ }

theorem witness_DrainedLaneEntersIdle : ¬ (((lane2 .run).lane 2).state = .drain) ∧
    (((lane2 .drain).lane 2).state = .drain ∧ ((lane2 .drain).lane 2).web = [] ∧ (lane2 .drain).gateOf 2 = []) ∧
    (batching 1 10 9 .fixed).openBatch = some ⟨1, 10, .fixed, 1, 9⟩ ∧ (batching 1 10 9).openBatch = some ⟨1, 10, .runEnd, 1, 9⟩ ∧
    (((ending .drain []).entry .A 3).recipe.map Recipe.closeMode = some .runEndMark ∧
      plannedEvents ((ending .drain []).lane 2).plan.stack = []) ∧
    plannedEvents ((ending .drain [⟨.closeFull, 1, 10⟩]).lane 2).plan.stack = [⟨.closeFull, 1, 10⟩] ∧
    (ready.entry .A 3).recipe.map Recipe.closeMode ≠ some .runEndMark := by decide +kernel
theorem witness_StationsPlan : card0.reasons = [] ∧ gated.reasons ≠ [] ∧
    (ready.stations = some map0 ∧ ready.timer.average = none ∧
      ({ ready with timer := ⟨0, some 100, false⟩ } : State).timer.average = some 100 ∧
      ((tracking).entry card0.bank card0.entry).recipe = some (pack .runEnd)) ∧
    ({ card0 with loadResult := some [4, 4] } : Card).loadResult.isSome = true ∧ card0.loadResult = none ∧
    ¬ (card0.reasons = [] ∧ card0.placed = some true) ∧ ({ card0 with placed := some true } : Card).placed = some true ∧
    (sealRecord (pack .runEnd) map0 12000 .warming 0).outcome = .noHeat ∧
    (sealRecord (pack .runEnd) map0 6000 .ready 1875).outcome = .noWindow ∧
    (sealRecord (pack .runEnd) map0 12000 .ready 1875).outcome = .ok ∧
    (∀ c ∈ ((tracking card0 1302).lane 2).web, c.formed ≠ 1302 - BitVec.ofNat 16 (ready.map.offset .load)) ∧
    (((tracking card0 1303).lane 2).web = [] ++ card0 :: [] ∧ card0.formed = 1303 - BitVec.ofNat 16 (ready.map.offset .load)) := by
  decide +kernel
theorem witness_BankSwitchDecision :
    ready.pendingSwitch = none ∧ ({ lane2 .run with pendingSwitch := some 1300 } : State).pendingSwitch = some 1300 ∧
    indexDistance 1300 34068 = 32768 ∧ indexDistance 1300 34067 = 32767 ∧ (∀ l : Lane, (ready.lane l).state ≠ .run ∧ (ready.lane l).state ≠ .drain) ∧
    (((lane2 .run).lane 2).state = .run ∧ ((lane2 .run).entry (lane2 .run).active.other 3).recipe = none ∧
      ∀ m : Lane, m < 2 → ((lane2 .run).lane m).state ≠ .run ∧ ((lane2 .run).lane m).state ≠ .drain) := by decide +kernel

/-- Lane 2 with a planned loader command, in a role. -/
def planning (role : Role) : State :=
  { lane2 .run (fun r => { r with plan := { LanePlan.none with load := some (.load true 100 2 [4, 4]) } }) with role := role }
/-- The frame of index 1304 with this tag in slot 0. -/
def marked (tag : Byte) : Frame := putSlot (cycle 12 1304) 0 (padTo 16 [tag, 9, 1, 0, 0, 100])

/-- R154's bytes for a STACK_CMD of two events. -/
theorem test_stack_payload : (Command.stack [⟨.add, 0x0102, 10⟩, ⟨.closeFull, 0x0102, 10⟩]).payload =
    [2, 1, 1, 2, 10, 2, 1, 2, 10, 0, 0, 0, 0, 0] := by decide +kernel
theorem witness_not_a_command : ∀ kind l, SlotUse.report .load 2 ≠ .command kind l := by simp
theorem witness_CommandSlotHandling :
    (List.replicate 3 (⟨.add, 1, 1⟩ : StackEvent)).length ≤ 3 ∧ (planning .active).role = .active ∧ (planning .monitor).role = .monitor ∧
    (ready.lane 2).plan.get .load = none ∧ ((planning .active).lane 2).plan.get .load = some (.load true 100 2 [4, 4]) ∧
    ¬ (slotCount (cycle 12 1304) ≤ 11) ∧ slotCount (cycle 12 1304) ≤ 12 ∧ byteAt (slotBytes (marked 0) 0) 0 = 0 ∧
    (byteAt (slotBytes (marked 0x10) 0) 0 = Kind.load.commandTag ∧
      (Command.load true 100 2 [4, 4]).payload.take 4 = ((slotBytes (marked 0x10) 0).drop 2).take 4) ∧
    byteAt (slotBytes (marked 0x11) 0) 0 ≠ Kind.load.commandTag := by decide +kernel
theorem witness_StatusSlotShowsState : (∀ i : Fin 48, State.reset.slotMap[i] ≠ .status) ∧
    (ready.slotMap[11] = .status ∧ ∀ j : Fin 48, j < 11 → ready.slotMap[j] ≠ .status) ∧ slotCount (cycle 11 0) ≤ 11 ∧
    11 < slotCount (cycle 12 0) := by decide +kernel

/-! ## Witnesses: the service requests -/

/-- A request is handed on under the node address 12, in a state. -/
def served (code : Byte) (d : List Byte) (r : Request) (s : State) : Bool :=
  decide (Serves (asked (request 12 code d) s) (request 12 code d) [] r)

/-- As a proposition. -/
abbrev Asked (code : Byte) (d : List Byte) (r : Request) (s : State := ready) : Prop := served code d r s = true

/-- The operand of such a request. -/
def operand (d : List Byte) : List Byte := serviceData (request 12 0 d)

theorem witness_IdentifyAndReadState :
    (Asked 0x01 [] .identify ∧ restZero (operand []) 0 = true) ∧ (Asked 0x01 [1] .identify ∧ restZero (operand [1]) 0 = false) ∧
    (Asked 0x02 [0, 1] .readState ∧ restZero (operand [0, 1]) 1 = false) ∧
    (Asked 0x02 [2] .readState ∧ restZero (operand [2]) 1 = true ∧ 1 < natAt (operand [2]) 0) ∧
    (Asked 0x02 [0] .readState ∧ natAt (operand [0]) 0 = 0) ∧ (Asked 0x02 [1] .readState (gating) ∧ natAt (operand [1]) 0 = 1) := by
  decide +kernel
theorem witness_ReadStationsReturnsMap :
    (HandsService (asked (request 12 0x13 []) ready) (request 12 0x13 []) [] .readStations ∧ byteAt (request 12 0x13 []) 1 ≠ 63 ∧
      restZero (operand []) 0 = true ∧ ready.stations = some map0) ∧
    (HandsService (asked (request 12 0x13 []) State.reset) (request 12 0x13 []) [] .readStations ∧ State.reset.stations = none) ∧
    (HandsService (asked (request 12 0x13 [0, 1]) ready) (request 12 0x13 [0, 1]) [] .readStations ∧
      restZero (operand [0, 1]) 0 = false) ∧
    (HandsService (asked (request 63 0x13 []) ready) (request 63 0x13 []) [] .readStations ∧ byteAt (request 63 0x13 []) 1 = 63) := by
  decide +kernel
theorem witness_ReadRecipeReturnsEntry :
    HandsService (asked (request 63 0x15 [0, 3]) ready) (request 63 0x15 [0, 3]) [] .readRecipe ∧
    (HandsService (asked (request 12 0x15 [0, 3, 1]) ready) (request 12 0x15 [0, 3, 1]) [] .readRecipe ∧
      restZero (operand [0, 3, 1]) 2 = false) ∧
    (Asked 0x15 [2, 3] .readRecipe ∧ 1 < natAt (operand [2, 3]) 0) ∧ (Asked 0x15 [0, 16] .readRecipe ∧ 15 < natAt (operand [0, 16]) 1) ∧
    (Asked 0x15 [1, 15] .readRecipe ∧ natAt (operand [1, 15]) 1 = (15 : EntryNo) ∧ (ready.entry .B 15).recipe = none) ∧
    (Asked 0x15 [0, 3] .readRecipe ∧ (ready.entry .A 3).recipe = some (pack .runEnd)) := by decide +kernel
theorem witness_ReadCountersReturnsPage :
    (Asked 0x22 [6, 0] .readCounters ∧ 5 < natAt (operand [6, 0]) 0) ∧ (Asked 0x22 [5, 2] .readCounters ∧ 1 < natAt (operand [5, 2]) 1) ∧
    (Asked 0x22 [5, 1, 1] .readCounters ∧ restZero (operand [5, 1, 1]) 2 = false) ∧
    (Asked 0x22 [5, 1] .readCounters ∧ restZero (operand [5, 1]) 2 = true ∧ natAt (operand [5, 1]) 0 = (5 : Lane) ∧
      natAt (operand [5, 1]) 1 = 1) ∧ natAt (operand [0, 0]) 1 = 0 := by decide +kernel
/-- A card with every part, and the bytes of section 2.7's seal record in its readout. -/
def whole : Card :=
  { gated with
    loadResult := some [4, 4]
    inspection := some ⟨[false, true], none⟩
    placed := some true
    sealRec := some ⟨1875, -5, 379, .ok, some 378, some true⟩
    reasons := [.inspectFail, .weightOut] }
/-- R159, worked out by hand from the table. -/
theorem test_card_readout : (cardBytes 2 1324 whole).drop 16 =
    [0, 0x7F, 2, 0x44, 0, 0, 0, 0x40, 0xFF, 0xFF, 1, 0x07, 0x53, 0xFF, 0xFB, 0x01, 0x7B, 1, 0x01, 0x7A, 1, 0, 47, 0x25, 0, 0x0C, 3, 0x05, 0x2C] := by
  decide +kernel
theorem witness_ReadCardAndSlotMap :
    (let s := { ready with cardViews := [(tracking).cardView 1, (tracking).cardView 0] }
     Asked 0x21 [2, 0] .readCard s ∧ s.cardViews = [(tracking).cardView 1] ++ (tracking).cardView 0 :: [] ∧
      ((tracking).cardView 1).place ≠ 0 ∧ ((tracking).cardView 0).place = 0 ∧ ready.cardViews = []) ∧
    (card0.loadResult = none ∧ card0.inspection = none ∧ card0.sealRec = none ∧ whole.loadResult = some [4, 4] ∧
      whole.inspection = some ⟨[false, true], none⟩ ∧ whole.sealRec.isSome = true ∧ whole.reasons.Nodup) ∧
    (Asked 0x21 [2, 0, 1] .readCard ∧ restZero (operand [2, 0, 1]) 2 = false) ∧
    (Asked 0x21 [6, 0] .readCard ∧ 5 < natAt (operand [6, 0]) 0) ∧ (Asked 0x21 [5, 35] .readCard ∧ 34 < natAt (operand [5, 35]) 1) ∧
    (Asked 0x21 [2, 34] .readCard ∧ ready.lastIndex = none ∧ natAt (operand [2, 34]) 1 ≤ 34) ∧
    (Asked 0x21 [2, 23] .readCard (tracking card0 1323) ∧ natAt (operand [2, 23]) 1 < ready.map.e ∧
      card0 ∈ ((tracking card0 1323).lane 2).web ∧ indexDistance card0.formed 1323 = natAt (operand [2, 23]) 1 ∧
      ∀ x ∈ ((tracking card0 1323).lane 2).web, x.formed = card0.formed → x = card0) ∧
    ready.map.e ≤ natAt (operand [2, 24]) 1 ∧ natAt (operand [2, 32]) 1 = 32 + 0 ∧ gating.lastIndex = some 1324 ∧
    (Asked 0x11 [1] .readSlotMap ∧ restZero (operand [1]) 0 = false) ∧ Asked 0x11 [] .readSlotMap := by decide +kernel
theorem witness_MapSlotWritesPairs :
    (Asked 0x10 [0] .mapSlot ∧ natAt (operand [0]) 0 = 0) ∧ (Asked 0x10 [17] .mapSlot ∧ 16 < natAt (operand [17]) 0) ∧
    (Asked 0x10 [1, 0, 0, 1] .mapSlot ∧ restZero (operand [1, 0, 0, 1]) 3 = false) ∧
    (Asked 0x10 [1, 0, 0xC1] .mapSlot ∧ 192 ≤ (0xC1#8).toNat ∧ (0xC1#8).toNat % 64 ≠ 0) ∧
    (Asked 0x10 [1, 47, 0] .mapSlot (lane2 .run) ∧ (asked (request 12 0x10 [1, 47, 0]) (lane2 .run)).allIdle = false) ∧
    (Asked 0x10 [1, 48, 0] .mapSlot ∧ 47 < natAt (operand [1, 48, 0]) 1 ∧ ready.allIdle = true) ∧
    (Asked 0x10 [1, 0, 0xA8] .mapSlot ∧ (0xA8#8).toNat / 64 = 2 ∧ (0xA8#8).toNat / 8 % 8 = 5) ∧
    (Asked 0x10 [1, 0, 0x46] .mapSlot ∧ (0x46#8).toNat / 64 = 1 ∧ 5 < (0x46#8).toNat % 8) ∧
    (Asked 0x10 [1, 0, 0x70] .mapSlot ∧ (0x70#8).toNat / 64 = 1 ∧ 5 < (0x70#8).toNat / 8 % 8) ∧
    (Asked 0x10 [1, 47, 0xC0] .mapSlot ∧ useOf 0xC0 = some ready.slotMap[11]) ∧
    (Asked 0x10 [1, 47, 0xA5] .mapSlot ∧ useOf 0xA5 = some (.report .gate 5) ∧ ∀ i : Fin 48, ready.slotMap[i] ≠ .report .gate 5) := by
  decide +kernel

/-- The operand of section 1.1's SET_STATIONS. -/
def stationBytes : List Byte := [3, 7, 12, 18, 24, 2, 3, 96, 0, 40, 25, 150, 0x2E, 0xE0]

theorem witness_SetStationsReplacesMap :
    (Asked 0x12 (stationBytes ++ [1]) .setStations ∧ restZero (operand (stationBytes ++ [1])) 14 = false) ∧
    (Asked 0x12 stationBytes .setStations (lane2 .run) ∧ (lane2 .run).allIdle = false) ∧
    (Asked 0x12 stationBytes .setStations { ready with gate := [gated] } ∧ ({ ready with gate := [gated] } : State).gate ≠ []) ∧
    (Asked 0x12 (stationBytes.set 4 32) .setStations ∧ ¬ (natAt (operand (stationBytes.set 4 32)) 4 ≤ 31)) ∧
    (Asked 0x12 stationBytes .setStations ∧ restZero (operand stationBytes) 14 = true ∧ ready.allIdle = true ∧ ready.gate = [] ∧
      nat16At (operand stationBytes) 12 = 12000) := by decide +kernel
/-- A recipe at the limits of R58's ranges. -/
def limits : Recipe :=
  ⟨0xFFFFFFFF, 8, List.replicate 8 15, 65534, 65534, 220, 500, 60000, 3000, 3000, 64, 255, 225, List.replicate 8 (-63), 250, .runEndMark⟩
/-- R58, R63: at the limits a recipe is taken, one beyond them is refused RANGE: a count of 0, Ta 221, Wmin above Wmax, an offset of 64. -/
theorem test_loadRecipe_limits :
    (after .loadRecipe (asked (request 12 0x14 ([1, 3, 1] ++ limits.bytes)) ready)).entry .B 3 = ⟨some limits, 0⟩ ∧
    ([{ limits with expected := [0] }, { limits with ta := 221 }, { limits with wMax := 65533 }, { limits with offsets := [64] }].map
      (fun r => (reply .loadRecipe 0x14 ([1, 3, 1] ++ r.bytes) 0 ready).1)) = List.replicate 4 0x82 := by decide +kernel
theorem witness_LoadRecipeWritesEntry :
    (Asked 0x14 [1, 3, 3] .loadRecipe ∧ natAt (operand [1, 3, 3]) 2 ≠ 1 ∧ natAt (operand [1, 3, 3]) 2 ≠ 2) ∧
    (Asked 0x14 [2, 3, 2] .loadRecipe ∧ 1 < natAt (operand [2, 3, 2]) 0) ∧ (Asked 0x14 [1, 16, 2] .loadRecipe ∧ 15 < natAt (operand [1, 16, 2]) 1) ∧
    (Asked 0x14 [0, 15, 2] .loadRecipe ∧ ready.active = .A) ∧
    (Asked 0x14 [0, 3, 2] .loadRecipe { tracking with active := .B } ∧ 0 < ((tracking).entry .A 3).refs) ∧
    (Asked 0x14 [1, 3, 1] .loadRecipe ∧ ¬ (1 ≤ natAt (operand [1, 3, 1]) 7)) ∧
    (Asked 0x14 ([1, 3, 1] ++ (pack .runEnd).bytes) .loadRecipe ∧ restZero (operand ([1, 3, 1] ++ (pack .runEnd).bytes)) 38 = true ∧
      (reply .loadRecipe 0x14 ([1, 3, 1] ++ (pack .runEnd).bytes) 4 ready).1 = 0x01 ∧
      (after .loadRecipe (asked (request 12 0x14 ([1, 3, 1] ++ (pack .runEnd).bytes)) ready)).entry .B 3 = ⟨some (pack .runEnd), 0⟩) ∧
    (Asked 0x14 [1, 3, 2] .loadRecipe ∧ restZero (operand [1, 3, 2]) 3 = true ∧ (ready.entry .B 3).refs = 0) := by decide +kernel
theorem witness_RecipeOperandRoundTrip :
    recipeOf (List.replicate 38 0) 3 = none ∧ natAt (List.replicate 37 0 ++ [4]) 37 = 4 ∧ (pack .runEndMark).inRange = true ∧
    recipeOf ([1, 3, 1] ++ (pack .runEndMark).bytes) 3 = some (pack .runEndMark) := by decide +kernel
theorem witness_SwitchRoleAndCounters :
    (Asked 0x16 [1, 0, 9, 1] .switchBank ∧ restZero (operand [1, 0, 9, 1]) 3 = false) ∧
    (Asked 0x16 [1, 0, 9] .switchBank { ready with pendingSwitch := some 7 } ∧ restZero (operand [1, 0, 9]) 3 = true) ∧
    (Asked 0x16 [1, 0, 9] .switchBank ∧ ready.pendingSwitch = none) ∧
    (Asked 0x50 [1, 1] .setRole ∧ restZero (operand [1, 1]) 1 = false) ∧ (Asked 0x50 [0] .setRole ∧ natAt (operand [0]) 0 ≠ 1) ∧
    Asked 0x50 [3] .setRole ∧ Asked 0x50 [1] .setRole ∧ (Asked 0x50 [2] .setRole ∧ natAt (operand [2]) 0 = 2) ∧
    (Asked 0x23 [5, 1] .clearCounters ∧ restZero (operand [5, 1]) 1 = false) ∧ (Asked 0x23 [6] .clearCounters ∧ 5 < natAt (operand [6]) 0) ∧
    (Asked 0x23 [254] .clearCounters ∧ natAt (operand [254]) 0 ≠ 255) ∧ (Asked 0x23 [5] .clearCounters ∧ natAt (operand [5]) 0 = (5 : Lane)) ∧
    (Asked 0x23 [255] .clearCounters ∧ natAt (operand [255]) 0 = 255) := by decide +kernel
theorem witness_SwitchBankCancelRemovesSwitch :
    (Asked 0x16 [2, 0, 1] .switchBankCancel ∧ restZero (operand [2, 0, 1]) 1 = false) ∧
    (Asked 0x16 [2] .switchBankCancel { ready with pendingSwitch := some 7 } ∧ restZero (operand [2]) 1 = true) ∧
    (Asked 0x16 [2] .switchBankCancel ∧ ready.pendingSwitch = none) := by decide +kernel
theorem witness_ZoneRequests :
    (-128 < (-127 : Int) ∧ (127 : Int) < 128) ∧
    (Asked 0x40 [5, 7, 1, 1] .setZone ∧ restZero (operand [5, 7, 1, 1]) 3 = false) ∧ (Asked 0x40 [6, 7, 1] .setZone ∧ 5 < natAt (operand [6, 7, 1]) 0) ∧
    (Asked 0x40 [5, 8, 1] .setZone ∧ natAt (operand [5, 8, 1]) 1 = 8) ∧ (Asked 0x40 [5, 0x88, 1] .setZone ∧ natAt (operand [5, 0x88, 1]) 1 = 136) ∧
    (Asked 0x40 [5, 7, 0] .setZone ∧ natAt (operand [5, 7, 0]) 2 = 0) ∧ (Asked 0x40 [5, 0x87, 1] .setZone ∧ natAt (operand [5, 0x87, 1]) 2 ≠ 0) ∧
    (Asked 0x41 [1] .readZones ∧ restZero (operand [1]) 0 = false) ∧ Asked 0x41 [] .readZones := by decide +kernel
/-- No entry beyond RUN's, no index, nothing behind: the fields a LANE_COMMAND other than CHANGEOVER leaves 0. -/
def laneFields (d : List Byte) : Bool := restZero (operand d) 5 && decide (word16 (operand d) 3 = 0)

theorem witness_LaneRunStarts :
    (Asked 0x20 [2, 1, 3, 0, 1] .laneRun ∧ ¬ laneFields [2, 1, 3, 0, 1]) ∧
    (Asked 0x20 [6, 1, 3] .laneRun ∧ laneFields [6, 1, 3] ∧ 5 < natAt (operand [6, 1, 3]) 0) ∧
    (Asked 0x20 [2, 1, 3] .laneRun (lane2 .run) ∧ laneFields [2, 1, 3] ∧ ((lane2 .run).lane 2).state = .run) ∧
    (Asked 0x20 [2, 1, 255] .laneRun ∧ (ready.lane 2).state = .idle ∧ natAt (operand [2, 1, 255]) 2 = 255) ∧
    (Asked 0x20 [2, 1, 3] .laneRun State.reset ∧ State.reset.stations = none) ∧
    (Asked 0x20 [1, 1, 3] .laneRun ∧ ∀ i : Fin 48, ready.slotMap[i] ≠ .command .load 1) ∧
    (Asked 0x20 [2, 1, 4] .laneRun ∧ (ready.entry .A 4).recipe = none) ∧ (Asked 0x20 [2, 1, 16] .laneRun ∧ natAt (operand [2, 1, 16]) 2 = 16) ∧
    (Asked 0x20 [2, 1, 3] .laneRun ∧ ready.stations.isSome = true ∧ (ready.entry ready.active 3).recipe.isSome = true ∧
      (∀ i : Fin 11, ready.slotMap[i.castLE (by decide : 11 ≤ 48)] ≠ .unused) ∧ (ready.zone 2).state ≠ .fault) ∧
    (ready.setZone 2 { Zone.reset with state := .fault }).zone 2 = { Zone.reset with state := .fault } ∧
    (Asked 0x20 [2, 1, 255] .laneRun (lane2 .drain) ∧ ((lane2 .drain).lane 2).state = .drain) ∧
    Asked 0x20 [2, 1, 3] .laneRun (lane2 .drain) ∧ Asked 0x20 [2, 1, 4] .laneRun (lane2 .drain) := by decide +kernel
theorem witness_DrainPurgeClear :
    (Asked 0x20 [2, 2, 1] .laneDrain ∧ natAt (operand [2, 2, 1]) 2 ≠ 0) ∧
    (Asked 0x20 [6, 3] .lanePurge ∧ laneFields [6, 3] ∧ natAt (operand [6, 3]) 2 = 0 ∧ 5 < natAt (operand [6, 3]) 0) ∧
    (Asked 0x20 [6, 4] .laneClear ∧ 5 < natAt (operand [6, 4]) 0) ∧
    (Asked 0x20 [2, 2] .laneDrain (lane2 .run) ∧ laneFields [2, 2] ∧ natAt (operand [2, 2]) 0 = (2 : Lane)) ∧
    (Asked 0x20 [2, 3] .lanePurge (tracking) ∧ laneFields [2, 3]) ∧ (Asked 0x20 [2, 4] .laneClear (lane2 .fault)) ∧
    ((lane2 .fault).lane 2).web = [] ∧ (lane2 .fault).gateOf 2 = [] ∧ ((lane2 .fault).lane 2).blind = 0 ∧
    0 < ((lane2 .fault (fun r => { r with blind := 1 })).lane 2).blind ∧ ((lane2 .fault).lane 2).openBatch = none ∧
    ((lane2 .fault (fun r => { r with openBatch := some ⟨1, 10, .fixed, 1, 1⟩ })).lane 2).openBatch = some ⟨1, 10, .fixed, 1, 1⟩ ∧
    (((ending .fault []).entry (ending .fault []).active 3).recipe.map Recipe.closeMode = some .runEndMark) := by decide +kernel
theorem witness_ChangeoverAndFlags :
    (Asked 0x20 [2, 6, 0, 0, 0, 1] .forceOn ∧ restZero (operand [2, 6, 0, 0, 0, 1]) 5 = false) ∧
    (Asked 0x20 [6, 9] .autoPurgeOff ∧ laneFields [6, 9] ∧ 5 < natAt (operand [6, 9]) 0) ∧
    (Asked 0x20 [6, 5, 255] .laneChangeover ∧ natAt (operand [6, 5, 255]) 2 = 255) ∧
    (Asked 0x20 [6, 5, 15] .laneChangeover ∧ laneFields [6, 5, 15] ∧ natAt (operand [6, 5, 15]) 2 ≠ 255 ∧ 5 < natAt (operand [6, 5, 15]) 0) ∧
    (Asked 0x20 [2, 5, 255, 0, 9] .laneChangeover (lane2 .run) ∧ natAt (operand [2, 5, 255, 0, 9]) 2 = 255) ∧
    (Asked 0x20 [2, 5, 16, 0, 9] .laneChangeover (lane2 .run) ∧ 15 < natAt (operand [2, 5, 16, 0, 9]) 2) ∧
    (Asked 0x20 [2, 5, 15, 0, 9] .laneChangeover ∧ (ready.lane 2).state = .idle) ∧
    (Asked 0x20 [2, 5, 15, 0, 9] .laneChangeover (lane2 .run) ∧ natAt (operand [2, 5, 15, 0, 9]) 2 = (15 : EntryNo) ∧
      restZero (operand [2, 5, 15, 0, 9]) 5 = true) ∧
    Asked 0x20 [2, 6] .forceOn ∧ Asked 0x20 [2, 7] .forceOff ∧ Asked 0x20 [2, 8] .autoPurgeOn ∧ Asked 0x20 [2, 9] .autoPurgeOff ∧
    laneFields [2, 9] := by decide +kernel
theorem witness_ReadAlarmsClears : StopSound ready ∧
    (Asked 0x30 [0, 1] .readAlarms ∧ restZero (operand [0, 1]) 1 = false) ∧ (Asked 0x30 [6] .readAlarms ∧ 5 < natAt (operand [6]) 0) ∧
    (Asked 0x30 [253] .readAlarms ∧ natAt (operand [253]) 0 < 254) ∧ (Asked 0x30 [5] .readAlarms ∧ natAt (operand [5]) 0 < 6) ∧
    Asked 0x30 [254] .readAlarms ∧ Asked 0x30 [255] .readAlarms := by decide +kernel
theorem witness_SetAlarmMasksReplaces : StopSound (ready.latchLane 2 .unexpectedReject [1]) ∧
    (Asked 0x31 [0, 0, 0, 1] .setAlarmMasks ∧ restZero (operand [0, 0, 0, 1]) 3 = false) ∧
    (Asked 0x31 [0, 128, 0] .setAlarmMasks ∧ 128 ≤ natAt (operand [0, 128, 0]) 1) ∧
    (Asked 0x31 [254, 0, 64] .setAlarmMasks ∧ 64 ≤ natAt (operand [254, 0, 64]) 2) ∧
    (Asked 0x31 [6, 127, 127] .setAlarmMasks ∧ ¬ (128 ≤ natAt (operand [6, 127, 127]) 1)) ∧ Asked 0x31 [253, 0, 0] .setAlarmMasks ∧
    Asked 0x31 [254, 63, 63] .setAlarmMasks ∧ Asked 0x31 [255, 0, 0x7F] .setAlarmMasks ∧
    ((ready.latchLane 2 .unexpectedReject [1]).stopPresent = false ∧
      (after .setAlarmMasks (asked (request 12 0x31 [2, 0, 0x08]) (ready.latchLane 2 .unexpectedReject [1]))).stopPresent = true) ∧
    ((ready.latchLane 2 .trackLost [1]).stopPresent = true ∧
      (after .setAlarmMasks (asked (request 12 0x31 [2, 0, 0]) (ready.latchLane 2 .trackLost [1]))).stopPresent = true) := by decide +kernel
theorem witness_RestartAndUnknownRequest :
    (natAt (request 12 0x01 []) 3 = 0x01 ∧ natAt (request 12 0x5F []) 3 = 0x5F ∧ natAt (request 12 0x16 [2]) 3 = 0x16 ∧
      natAt (request 12 0x20 [0, 9]) 3 = 0x20 ∧ natAt (request 12 0x60 []) 3 = 0x60) ∧ Asked 0x03 [] .unknown ∧ (Asked 0x5F [1] .restart ∧ restZero (operand [1]) 0 = false) ∧
    (Asked 0x5F [] .restart (tracking) ∧ restZero (operand []) 0 = true) := by decide +kernel

/-! ## Witnesses: the invariants, on a part that tracks a card and on one with a gate list entry -/

theorem witness_StepKeepsPool : PoolSound (tracking) ∧ PoolSound (gating) ∧ ∃ t, step (tracking) = .next t :=
  ⟨by decide +kernel, by decide +kernel, _, rfl⟩
theorem witness_StepKeepsRecipes : RefsSound (tracking) ∧ RecipesSound (tracking) ∧ BatchSound (tracking) ∧ RefsSound (gating) ∧
    RecipesSound (gating) ∧ BatchSound (gating) := by decide +kernel
theorem witness_StepKeepsLanes : ListsSound (gating) ∧ IdleSound (gating) ∧ BlindSound (gating) ∧ StationsSound (gating) ∧
    SlotMapSound (gating) := by decide +kernel
theorem witness_StepKeepsWebAndGateWindows : WebSound (tracking) ∧ GateSound (gating) := by
  refine ⟨fun l => ⟨fun k hk => ?_, by decide +kernel +revert⟩, fun l => ⟨fun k hk => ?_, by decide +kernel +revert⟩⟩
  · obtain rfl : (1300 : Index) = k := by simpa [tracking] using hk
    decide +kernel +revert
  · obtain rfl : (1324 : Index) = k := by simpa [gating] using hk
    decide +kernel +revert
theorem witness_StepKeepsRejectedSum : RejectedSound (gating) ∧ ListsSound (gating) ∧ ReasonsSound (gating) := by decide +kernel
theorem witness_StepKeepsStopRequest : StopSound (ready.latchLane 2 .trackLost [1]) ∧ FixedSound (ready.latchLane 2 .trackLost [1]) := by
  decide +kernel
theorem witness_StepKeepsZones : ZonesSound (tracking) ∧ ZoneFaultSound (tracking) := by decide +kernel
theorem witness_StepKeepsPortAndCounts : BufferSound behind.holdViews ∧ BufferSound (cycling 48 none) ∧ BypassSound (cycling 48 none) ∧ CountsSound ready := by
  decide +kernel

end Sys2Proof.Tests
end

section
/-! PROOFS. What tracking leaves alone and what it acts on: the port of the part, which no tracking operation changes, and the
track of a lane, which is all that the laws of the lists, the lanes and the windows speak of. -/

namespace Sys2Proof.Machine

open Sys2Proof.Safety

/-! ## The port: everything that tracking leaves alone -/

/-- The state with everything that tracking changes put at its reset value; what is left is the supply, the straps and roles, the
Frame Buffer and the Ring Port, the Slot Map, the Station Map, the Pitch Timer, the last index and the recipes. -/
def State.port (s : State) : State :=
  { s with
    free := []
    gate := []
    serial := 0
    lanes := Vector.replicate 6 LaneRec.reset
    bankA := s.bankA.map Entry.restart
    bankB := s.bankB.map Entry.restart
    active := .A
    pendingSwitch := none
    zones := Vector.replicate 6 Zone.reset
    conv := ⟨0, 0, 16⟩
    chipAlarms := chipAlarmsReset
    stopReason := 0 }

@[simp] theorem State.power_port (s : State) : s.port.power = s.power := rfl
@[simp] theorem State.bypdrv_port (s : State) : s.port.bypdrv = s.bypdrv := rfl
@[simp] theorem State.nodeAddr_port (s : State) : s.port.nodeAddr = s.nodeAddr := rfl
@[simp] theorem State.role_port (s : State) : s.port.role = s.role := rfl
@[simp] theorem State.pendingRole_port (s : State) : s.port.pendingRole = s.pendingRole := rfl
@[simp] theorem State.buffer_port (s : State) : s.port.buffer = s.buffer := rfl
@[simp] theorem State.phase_port (s : State) : s.port.phase = s.phase := rfl
@[simp] theorem State.cardViews_port (s : State) : s.port.cardViews = s.cardViews := rfl
@[simp] theorem State.ringOut_port (s : State) : s.port.ringOut = s.ringOut := rfl
@[simp] theorem State.lastIndex_port (s : State) : s.port.lastIndex = s.lastIndex := rfl
@[simp] theorem State.ring_port (s : State) : s.port.ring = s.ring := rfl
@[simp] theorem State.slotMap_port (s : State) : s.port.slotMap = s.slotMap := rfl
@[simp] theorem State.stations_port (s : State) : s.port.stations = s.stations := rfl
@[simp] theorem State.timer_port (s : State) : s.port.timer = s.timer := rfl
@[simp] theorem State.pending_port (s : State) : s.port.pending = s.pending := rfl

@[simp] theorem State.port_setLane (s : State) (l : Lane) (r : LaneRec) : (s.setLane l r).port = s.port := rfl
@[simp] theorem State.port_updLane (s : State) (l : Lane) (f : LaneRec → LaneRec) : (s.updLane l f).port = s.port := rfl
@[simp] theorem State.port_mapWeb (s : State) (l : Lane) (f : Card → Card) : (s.mapWeb l f).port = s.port := rfl
@[simp] theorem State.port_updCard (s : State) (l : Lane) (i : Index) (f : Card → Card) : (s.updCard l i f).port = s.port := rfl
@[simp] theorem State.port_latchLane (s : State) (l : Lane) (a : LaneAlarm) (d : List Byte) : (s.latchLane l a d).port = s.port := rfl
@[simp] theorem State.port_latchChip (s : State) (a : ChipAlarm) (d : List Byte) : (s.latchChip a d).port = s.port := rfl
@[simp] theorem State.port_setZone (s : State) (l : Lane) (z : Zone) : (s.setZone l z).port = s.port := rfl
@[simp] theorem State.port_beginConversion (s : State) (l : Lane) : (s.beginConversion l).port = s.port := rfl
@[simp] theorem State.port_gate (s : State) (g : List Card) : State.port { s with gate := g } = s.port := rfl

/-- A bank in which one entry's reference count changed holds the recipes it held. -/
theorem map_restart_set (v : Vector Entry 16) (n : EntryNo) (e : Entry) (h : e.recipe = v[n].recipe) :
    (v.set n e).map Entry.restart = v.map Entry.restart := by
  ext1 i hi
  simp only [Vector.getElem_map, Vector.getElem_set]
  split
  · next hn => subst hn; simp only [Entry.restart, h]; rfl
  · rfl

/-- A reference count is no part of the port. -/
@[simp] theorem State.port_updRefs (s : State) (b : Bank) (n : EntryNo) (f : Nat → Nat) : (s.updRefs b n f).port = s.port := by
  cases b
  · exact congrArg (fun v => ({ s.port with bankA := v } : State)) (map_restart_set s.bankA n _ rfl)
  · exact congrArg (fun v => ({ s.port with bankB := v } : State)) (map_restart_set s.bankB n _ rfl)

@[simp] theorem State.port_freeRecord (s : State) (c : Card) : (s.freeRecord c).port = s.port :=
  s.port_updRefs c.bank c.entry (· - 1)

/-! ## The track of a lane -/

/-- What the laws of the lists, the lane states, the windows and the counters read of a lane: its state, its pending changeover, its
blind window, its silence counters, its web list and its gate entries (R22, R25, R26, R39, R49, R50, R84). -/
structure Track where
  state : LaneState
  changeover : Option Changeover
  blind : Nat
  silence : Silence
  web : List Card
  gate : List Card

/-- The track of a lane record with these gate entries. -/
def LaneRec.track (r : LaneRec) (gate : List Card) : Track := ⟨r.state, r.changeover, r.blind, r.silence, r.web, gate⟩

/-- The track of lane `l`. -/
def State.track (s : State) (l : Lane) : Track := (s.lane l).track (s.gateOf l)

@[simp] theorem LaneRec.track_state (r : LaneRec) (g : List Card) : (r.track g).state = r.state := rfl
@[simp] theorem LaneRec.track_changeover (r : LaneRec) (g : List Card) : (r.track g).changeover = r.changeover := rfl
@[simp] theorem LaneRec.track_blind (r : LaneRec) (g : List Card) : (r.track g).blind = r.blind := rfl
@[simp] theorem LaneRec.track_silence (r : LaneRec) (g : List Card) : (r.track g).silence = r.silence := rfl
@[simp] theorem LaneRec.track_web (r : LaneRec) (g : List Card) : (r.track g).web = r.web := rfl
@[simp] theorem LaneRec.track_gate (r : LaneRec) (g : List Card) : (r.track g).gate = g := rfl
@[simp] theorem State.track_state (s : State) (l : Lane) : (s.track l).state = (s.lane l).state := rfl
@[simp] theorem State.track_changeover (s : State) (l : Lane) : (s.track l).changeover = (s.lane l).changeover := rfl
@[simp] theorem State.track_blind (s : State) (l : Lane) : (s.track l).blind = (s.lane l).blind := rfl
@[simp] theorem State.track_silence (s : State) (l : Lane) : (s.track l).silence = (s.lane l).silence := rfl
@[simp] theorem State.track_web (s : State) (l : Lane) : (s.track l).web = (s.lane l).web := rfl
@[simp] theorem State.track_gate (s : State) (l : Lane) : (s.track l).gate = s.gateOf l := rfl

/-- The tracks are read off the lane records and the gate list alone. -/
theorem State.track_congr {s t : State} (hl : ∀ l, t.lane l = s.lane l) (hg : t.gate = s.gate) : t.track = s.track := by
  funext l
  simp only [State.track, State.gateOf, hl, hg]

theorem State.track_setLane (s : State) (l m : Lane) (r : LaneRec) :
    (s.setLane l r).track m = if l = m then r.track (s.gateOf m) else s.track m := by
  show ((s.setLane l r).lane m).track (s.gateOf m) = _
  rw [State.lane_setLane]
  split <;> rfl

theorem State.track_updLane (s : State) (l m : Lane) (f : LaneRec → LaneRec) :
    (s.updLane l f).track m = if l = m then (f (s.lane m)).track (s.gateOf m) else s.track m := by
  show ((s.updLane l f).lane m).track (s.gateOf m) = _
  rw [State.lane_updLane]
  split <;> rfl

/-- A lane's update that keeps what the track reads of the record keeps every track. -/
theorem State.track_updLane_same (s : State) (l : Lane) (f : LaneRec → LaneRec) (h : ∀ r g, (f r).track g = r.track g) :
    (s.updLane l f).track = s.track := by
  funext m
  rw [State.track_updLane]
  split
  · exact h _ _
  · rfl

@[simp] theorem State.track_latchLane (s : State) (l : Lane) (a : LaneAlarm) (d : List Byte) : (s.latchLane l a d).track = s.track :=
  s.track_updLane_same l (fun r => { r with alarms := r.alarms.set a.place ((s.lane l).alarms[a.place].set d) }) (fun _ _ => rfl)
@[simp] theorem State.track_latchChip (s : State) (a : ChipAlarm) (d : List Byte) : (s.latchChip a d).track = s.track := rfl
@[simp] theorem State.track_freeRecord (s : State) (c : Card) : (s.freeRecord c).track = s.track :=
  State.track_congr (fun l => s.lane_freeRecord c l) (s.freeRecord_gate c)
@[simp] theorem State.track_updRefs (s : State) (b : Bank) (n : EntryNo) (f : Nat → Nat) : (s.updRefs b n f).track = s.track :=
  State.track_congr (fun l => s.lane_updRefs b n f l) (s.updRefs_gate b n f)
@[simp] theorem State.track_setEntry (s : State) (b : Bank) (n : EntryNo) (e : Entry) : (s.setEntry b n e).track = s.track :=
  State.track_congr (fun l => s.lane_setEntry b n e l) (s.setEntry_gate b n e)
@[simp] theorem State.track_setZone (s : State) (l : Lane) (z : Zone) : (s.setZone l z).track = s.track := rfl
@[simp] theorem State.track_beginConversion (s : State) (l : Lane) : (s.beginConversion l).track = s.track := rfl
@[simp] theorem State.track_eachView (s : State) (f : CardView → CardView) : (s.eachView f).track = s.track := rfl
@[simp] theorem State.track_sendHead (s : State) (f : Frame) : (s.sendHead f).track = s.track :=
  State.track_congr (fun l => s.lane_sendHead f l) (s.sendHead_gate f)

@[simp] theorem LaneRec.track_bump (i : Fin 21) (n : Nat) (r : LaneRec) (g : List Card) : (r.bump i n).track g = r.track g := rfl
@[simp] theorem LaneRec.track_countRejected (c : Card) (r : LaneRec) (g : List Card) : (r.countRejected c).track g = r.track g := by
  simp [LaneRec.track]
@[simp] theorem LaneRec.track_countExpired (c : Card) (r : LaneRec) (g : List Card) : (r.countExpired c).track g = r.track g := by
  simp [LaneRec.countExpired]
@[simp] theorem LaneRec.track_countUnverified (c : Card) (r : LaneRec) (g : List Card) :
    (r.countUnverified c).track g = r.track g := by simp [LaneRec.countUnverified]

/-- Counting and freeing a card changes no track. -/
theorem State.track_count_free (s : State) (l : Lane) (f : LaneRec → LaneRec) (c : Card) (h : ∀ r g, (f r).track g = r.track g) :
    ((s.updLane l f).freeRecord c).track = s.track := by rw [State.track_freeRecord, s.track_updLane_same l f h]

/-- Taking cards off the gate list takes them out of the gate entries of the tracks (R26). -/
theorem State.track_removeGate (s : State) (p : Card → Bool) (count : Card → LaneRec → LaneRec)
    (hc : ∀ c r g, (count c r).track g = r.track g) (m : Lane) :
    (s.removeGate p count).track m = { s.track m with gate := (s.gateOf m).filter (fun c => !p c) } := by
  have h : (s.removeGate p count).track = State.track { s with gate := s.gate.filter (fun c => !p c) } := by
    refine s.removeGate_keeps (fun t => t.track = State.track { s with gate := s.gate.filter (fun c => !p c) }) p count rfl ?_
    intro c _ _ t ht
    rw [t.track_count_free c.lane (count c) c (hc c), ht]
  rw [h]
  exact congrArg (s.lane m).track (List.filter_comm _ _ s.gate)

@[simp] theorem State.port_removeGate (s : State) (p : Card → Bool) (count : Card → LaneRec → LaneRec) :
    (s.removeGate p count).port = s.port :=
  s.removeGate_keeps (fun t => t.port = s.port) p count rfl (fun _ _ _ t ht => by simpa using ht)

end Sys2Proof.Machine
end

section
/-! PROOFS. What every operation of the tracking but the punch, card creation and the entry to IDLE does to a lane's track: cards leave it,
the cards that stay keep their lane, formed index and gate index, the lane enters FAULT or drops its changeover, and the silence counters
stay in range. -/

namespace Sys2Proof.Machine

open Sys2Proof.Safety

/-! ## What a card is known by -/

/-- What no operation changes of a card on a list: its lane, its formed index and its gate index (R10, R17, R22). -/
def Card.ident (c : Card) : Lane × Index × Option Index := (c.lane, c.formed, c.gateIndex)

theorem Card.ident_eq_iff (c d : Card) : c.ident = d.ident ↔ c.lane = d.lane ∧ c.formed = d.formed ∧ c.gateIndex = d.gateIndex := by
  simp [Card.ident]

@[simp] theorem Card.ident_addReason (r : Reason) (c : Card) : (c.addReason r).ident = c.ident := by simp [Card.ident]
@[simp] theorem Card.ident_addReasonIf (b : Bool) (r : Reason) (c : Card) : (c.addReasonIf b r).ident = c.ident := by simp [Card.ident]

/-- An accepted report leaves the card where it is (R78 to R81). -/
@[simp] theorem Card.ident_accept (kind : Kind) (r : Recipe) (payload : List Byte) (c : Card) : (c.accept kind r payload).ident = c.ident := by
  have hseal : (c.acceptSeal r payload).ident = c.ident := by
    unfold Card.acceptSeal
    split
    · rfl
    · simp only
      split
      · rw [Card.ident_addReasonIf]; rfl
      · rw [Card.ident_addReason]; rfl
  cases kind
  · simp only [Card.accept, Card.acceptLoad, Card.ident_addReasonIf]; rfl
  · simp only [Card.accept, Card.acceptInspect, Card.ident_addReasonIf]; rfl
  · simp only [Card.accept, Card.acceptCard, Card.ident_addReasonIf]; rfl
  · exact hseal
  · rfl
  · rfl

/-- A planned command leaves the card where it is (R86). -/
@[simp] theorem State.ident_planFor (s : State) (l : Lane) (kind : Kind) (c : Card) : (s.planFor l kind c).2.ident = c.ident := by
  have hseal : ∀ r m pitch zs z, (planSeal r m pitch zs z c).2.ident = c.ident := by
    intro r m pitch zs z
    have hreason : ∀ (o : Option Reason) (d : Card), (match o with | some why => d.addReason why | none => d).ident = d.ident := by
      intro o d; cases o <;> simp
    unfold planSeal
    simp only
    split
    · split <;> exact hreason _ _
    · rfl
  cases kind <;> simp only [State.planFor]
  · unfold planLoad; split <;> rfl
  · unfold planInspect; split <;> rfl
  · unfold planCard; split <;> rfl
  all_goals exact hseal _ _ _ _ _

/-! ## Silence counters -/

/-- No silence counter stands above 15 (R84). -/
def Silence.InRange (c : Silence) : Prop := c.load ≤ 15 ∧ c.inspect ≤ 15 ∧ c.card ≤ 15 ∧ c.sealing ≤ 15

/-- A verdict keeps the counter of its kind in range (R84). -/
theorem Silence.InRange.upd {c : Silence} (h : c.InRange) (kind : Kind) (v : Verdict) : (c.upd kind (silenceAfter v)).InRange := by
  have hv : ∀ n, n ≤ 15 → silenceAfter v n ≤ 15 := fun n hn => by cases v <;> simp only [silenceAfter] <;> omega
  obtain ⟨hload, hinspect, hcard, hsealing⟩ := h
  cases kind with
  | load => exact ⟨hv _ hload, hinspect, hcard, hsealing⟩
  | inspect => exact ⟨hload, hv _ hinspect, hcard, hsealing⟩
  | card => exact ⟨hload, hinspect, hv _ hcard, hsealing⟩
  | sealing => exact ⟨hload, hinspect, hcard, hv _ hsealing⟩
  | gate => exact ⟨hload, hinspect, hcard, hsealing⟩
  | stack => exact ⟨hload, hinspect, hcard, hsealing⟩

/-! ## A track that shrinks -/

/-- Cards leave the lists of a lane and the others stay where they are; the blind window does not grow; the lane keeps its state, with
its changeover or none, or leaves RUN or DRAIN for FAULT with none. -/
structure Track.Shrinks (a b : Track) : Prop where
  web : (b.web.map Card.ident).Sublist (a.web.map Card.ident)
  gate : b.gate.Sublist a.gate
  blind : b.blind ≤ a.blind
  lane : (b.state = a.state ∧ (b.changeover = a.changeover ∨ b.changeover = none)) ∨
    ((a.state = .run ∨ a.state = .drain) ∧ b.state = .fault ∧ b.changeover = none)
  silence : a.silence.InRange → b.silence.InRange

theorem Track.Shrinks.refl (a : Track) : a.Shrinks a := ⟨.refl _, .refl _, le_rfl, .inl ⟨rfl, .inl rfl⟩, id⟩

theorem Track.Shrinks.trans {a b c : Track} (h : a.Shrinks b) (g : b.Shrinks c) : a.Shrinks c := by
  refine ⟨g.web.trans h.web, g.gate.trans h.gate, g.blind.trans h.blind, ?_, g.silence ∘ h.silence⟩
  rcases h.lane with ⟨hs, hc⟩ | ⟨hw, hs, hc⟩
  · rcases g.lane with ⟨gs, gc⟩ | ⟨gw, gs, gc⟩
    · exact .inl ⟨gs.trans hs, by rcases gc with gc | gc <;> simp_all⟩
    · exact .inr ⟨by rwa [← hs], gs, gc⟩
  · rcases g.lane with ⟨gs, gc⟩ | ⟨gw, -, -⟩
    · exact .inr ⟨hw, gs.trans hs, by rcases gc with gc | gc <;> simp_all⟩
    · simp [hs] at gw

/-- A lane record changed in what the track does not read, or by entry to FAULT (R45). -/
theorem LaneRec.shrinks_enterFault (r : LaneRec) (g : List Card) : (r.track g).Shrinks (r.enterFault.track g) := by
  rw [LaneRec.enterFault_eq]
  split
  · next h => exact ⟨.refl _, .refl _, le_rfl, .inr ⟨h, rfl, rfl⟩, id⟩
  · exact .refl _

/-- Nothing but tracking changes, and every lane's track shrinks. -/
def State.Shrinks (s t : State) : Prop := t.port = s.port ∧ ∀ l, (s.track l).Shrinks (t.track l)

theorem State.Shrinks.refl (s : State) : s.Shrinks s := ⟨rfl, fun _ => .refl _⟩

theorem State.Shrinks.trans {s t u : State} (h : s.Shrinks t) (g : t.Shrinks u) : s.Shrinks u :=
  ⟨g.1.trans h.1, fun l => (h.2 l).trans (g.2 l)⟩

theorem State.Shrinks.of_eq {s t : State} (hp : t.port = s.port) (ht : t.track = s.track) : s.Shrinks t :=
  ⟨hp, fun l => by rw [ht]; exact .refl _⟩

theorem State.shrinks_updLane (s : State) (l : Lane) (f : LaneRec → LaneRec) (h : ∀ (r : LaneRec) g, (r.track g).Shrinks ((f r).track g)) :
    s.Shrinks (s.updLane l f) := by
  refine ⟨rfl, fun m => ?_⟩
  rw [State.track_updLane]
  split
  · exact h _ _
  · exact .refl _

theorem State.shrinks_updLane_same (s : State) (l : Lane) (f : LaneRec → LaneRec) (h : ∀ r g, (f r).track g = r.track g) :
    s.Shrinks (s.updLane l f) := .of_eq rfl (s.track_updLane_same l f h)

theorem State.shrinks_latchLane (s : State) (l : Lane) (a : LaneAlarm) (d : List Byte) : s.Shrinks (s.latchLane l a d) :=
  .of_eq rfl (s.track_latchLane l a d)

theorem State.shrinks_latchChip (s : State) (a : ChipAlarm) (d : List Byte) : s.Shrinks (s.latchChip a d) := .of_eq rfl rfl

/-- Cards of a web list are changed in what they are not known by. -/
theorem State.shrinks_mapWeb (s : State) (l : Lane) (f : Card → Card) (h : ∀ c, (f c).ident = c.ident) : s.Shrinks (s.mapWeb l f) := by
  refine s.shrinks_updLane l _ (fun r g => ⟨?_, .refl _, le_rfl, .inl ⟨rfl, .inl rfl⟩, id⟩)
  show ((r.web.map f).map Card.ident).Sublist (r.web.map Card.ident)
  rw [List.map_map, show Card.ident ∘ f = Card.ident from funext h]

theorem State.shrinks_updCard (s : State) (l : Lane) (i : Index) (f : Card → Card) (h : ∀ c, (f c).ident = c.ident) :
    s.Shrinks (s.updCard l i f) :=
  s.shrinks_mapWeb l _ (fun c => by split <;> simp [h])

/-- What shrinks the tracks at every turn shrinks them in all. -/
theorem State.shrinks_foldl {α : Type} (f : State → α → State) (xs : List α) (s : State) (h : ∀ (t : State), ∀ a ∈ xs, t.Shrinks (f t a)) :
    s.Shrinks (xs.foldl f s) :=
  foldl_keeps (s.Shrinks ·) f xs s (.refl s) (fun t a ha ht => ht.trans (h t a ha))

theorem State.shrinks_eachLane (f : Lane → State → State) (s : State) (h : ∀ l (t : State), t.Shrinks (f l t)) : s.Shrinks (s.eachLane f) :=
  s.shrinks_foldl _ _ (fun t l _ => h l t)

theorem State.shrinks_removeGate (s : State) (p : Card → Bool) (count : Card → LaneRec → LaneRec)
    (hc : ∀ c r g, (count c r).track g = r.track g) : s.Shrinks (s.removeGate p count) :=
  ⟨s.port_removeGate p count, fun l => by
    rw [s.track_removeGate p count hc]
    exact ⟨.refl _, List.filter_sublist, le_rfl, .inl ⟨rfl, .inl rfl⟩, id⟩⟩

/-! ## Zones: a conversion's end -/

theorem State.shrinks_zoneFaultBegins (s : State) (l : Lane) (inStep : Bool) : s.Shrinks (s.zoneFaultBegins l inStep) := by
  unfold State.zoneFaultBegins
  refine (s.shrinks_latchLane l .zoneFault (nat16 (s.zone l).z ++ [byteOf (s.zone l).streak])).trans ?_
  simp only
  split
  · exact State.shrinks_updLane_same _ l _ (by intros; rfl)
  · exact State.shrinks_updLane _ l _ (fun r g => r.shrinks_enterFault g)

/-- The end of a conversion (R110) at most takes lanes to FAULT (R115). -/
theorem State.shrinks_convert (s : State) (raw : RawCode) (inStep : Lane → Bool) : s.Shrinks (s.convert raw inStep) := by
  have hz : ∀ z, s.Shrinks (s.setZone s.conv.zone z) := fun z => .of_eq rfl rfl
  have hb : ∀ (u : State) l, u.Shrinks (u.beginConversion l) := fun u l => .of_eq rfl rfl
  unfold State.convert
  simp only
  split
  · exact ((hz _).trans (State.shrinks_zoneFaultBegins _ _ _)).trans (hb _ _)
  · exact (hz _).trans (hb _ _)

theorem State.shrinks_faultAfterStep (s : State) (l : Lane) : s.Shrinks (s.faultAfterStep l) := by
  refine s.shrinks_updLane l _ (fun r g => ?_)
  dsimp only
  split
  · exact r.shrinks_enterFault g
  · exact .refl _

/-! ## Stages 1, 2, 3 and 6 -/

theorem State.shrinks_applyReport (s : State) (f : Frame) (l : Lane) (k : Index) (kind : Kind) : s.Shrinks (s.applyReport f l k kind) := by
  unfold State.applyReport
  split
  · exact .refl s
  · refine (s.shrinks_updCard l _ _ (fun c => ?_)).trans (State.shrinks_updLane _ l _ (fun r g =>
      ⟨.refl _, .refl _, le_rfl, .inl ⟨rfl, .inl rfl⟩, fun h => h.upd kind _⟩))
    split <;> simp

theorem State.shrinks_confirm (l : Lane) (n : Nat) (s : State) : s.Shrinks (s.confirm l n) := by
  induction n generalizing s with
  | zero => exact .refl s
  | succ n ih =>
    unfold State.confirm
    split
    · exact .refl s
    · next c _ _ =>
      have herase : ∀ u : State, u.Shrinks { u with gate := u.gate.eraseP (fun x => x.lane = l) } := fun u =>
        ⟨rfl, fun m => ⟨.refl _, List.eraseP_sublist.filter _, le_rfl, .inl ⟨rfl, .inl rfl⟩, id⟩⟩
      have hcount := s.shrinks_updLane_same l (LaneRec.countRejected c) (fun r g => r.track_countRejected c g)
      exact ((hcount.trans (herase _)).trans (.of_eq (State.port_freeRecord _ c) (State.track_freeRecord _ c))).trans (ih _)

theorem State.shrinks_applyGateCount (s : State) (l : Lane) (k : Index) (n : Nat) : s.Shrinks (s.applyGateCount l k n) := by
  unfold State.applyGateCount
  have h := State.shrinks_confirm l (min n (s.gateOf l).length) s
  simp only
  split
  · have hb := h.trans (State.shrinks_updLane_same _ l (LaneRec.bump 19 (n - (s.gateOf l).length)) (by intros; rfl))
    split
    · exact hb
    · exact hb.trans (State.shrinks_latchLane _ l _ _)
  · exact h

theorem State.shrinks_evalStationLost (s : State) (l : Lane) : s.Shrinks (s.evalStationLost l) := by
  unfold State.evalStationLost
  simp only
  have h : ∀ now : Bool, s.Shrinks (s.updLane l (fun r => { r with stationLost := now })) := fun now =>
    s.shrinks_updLane_same l _ (by intros; rfl)
  split
  · refine ((h _).trans (State.shrinks_latchLane _ l _ _)).trans (State.shrinks_updLane _ l _ (fun r g => ?_))
    split
    · exact r.shrinks_enterFault g
    · exact .refl _
  · exact h _

theorem shrinks_stage1 (f : Frame) (k : Index) (applies : Bool) (l : Lane) (s : State) : s.Shrinks (stage1 f k applies l s) := by
  unfold stage1
  split
  · exact .refl s
  · simp only
    split
    · exact ((s.shrinks_foldl _ _ (fun t kind _ => t.shrinks_applyReport f l k kind)).trans
        (State.shrinks_applyGateCount _ l k _)).trans (State.shrinks_evalStationLost _ l)
    · exact s.shrinks_evalStationLost l

theorem shrinks_stage2 (k : Index) (l : Lane) (s : State) : s.Shrinks (stage2 k l s) := by
  unfold stage2
  split
  · exact .refl s
  · simp only
    split
    · exact .refl s
    · exact (s.shrinks_removeGate _ _ (fun c r g => r.track_countExpired c g)).trans (State.shrinks_latchLane _ l _ _)

theorem State.shrinks_takeChangeover (s : State) (k : Index) (l : Lane) : s.Shrinks (s.takeChangeover k l) := by
  have drop : ∀ (f : LaneRec → LaneRec), (∀ r g, (f r).track g = { r.track g with changeover := none }) → s.Shrinks (s.updLane l f) :=
    fun f hf => s.shrinks_updLane l f (fun r g => by rw [hf]; exact ⟨.refl _, .refl _, le_rfl, .inl ⟨rfl, .inr rfl⟩, id⟩)
  unfold State.takeChangeover
  split
  · exact .refl s
  · split
    · split
      · exact drop _ (by intros; rfl)
      · exact (drop _ (by intros; rfl)).trans (State.shrinks_latchLane _ l _ _)
    · exact .refl s

theorem shrinks_stage3 (k : Index) (l : Lane) (s : State) : s.Shrinks (stage3 k l s) := by
  unfold stage3
  split
  · exact s.shrinks_mapWeb l _ (fun c => by simp)
  · exact s.shrinks_takeChangeover k l
  · exact s.shrinks_takeChangeover k l
  · exact .refl s

theorem State.shrinks_planStation (s : State) (k : Index) (l : Lane) (kind : Kind) : s.Shrinks (s.planStation k l kind) := by
  unfold State.planStation
  split
  · exact .refl s
  · exact (s.shrinks_updCard l _ _ (fun c => by simp)).trans (State.shrinks_updLane_same _ l _ (by intros; rfl))

theorem shrinks_stage6 (k : Index) (l : Lane) (s : State) : s.Shrinks (stage6 k l s) :=
  s.shrinks_foldl _ _ (fun t kind _ => t.shrinks_planStation k l kind)

/-! ## Gap and lost track -/

/-- What retirement leaves of a lane's track (R136). -/
theorem State.track_retireWeb (s : State) (k : Index) (l m : Lane) :
    (s.retireWeb k l).track m =
      if l = m then { s.track m with web := (s.lane m).web.dropWhile (retiredAt s.map.e k) } else s.track m := by
  have h : (s.retireWeb k l).track =
      (s.updLane l (fun r => { r with web := (s.lane l).web.dropWhile (retiredAt s.map.e k) })).track :=
    foldl_keeps (fun t : State => t.track = _) _ _ _ rfl (fun t c _ ht => by
      rw [t.track_count_free l _ c (fun r g => r.track_countRejected _ g), ht])
  rw [h, State.track_updLane]
  split
  · next hm => subst hm; rfl
  · rfl

@[simp] theorem State.port_retireWeb (s : State) (k : Index) (l : Lane) : (s.retireWeb k l).port = s.port :=
  foldl_keeps (fun t : State => t.port = s.port) _ _ _ rfl (fun t c _ ht => by simpa using ht)

theorem State.shrinks_retireWeb (s : State) (k : Index) (l : Lane) : s.Shrinks (s.retireWeb k l) := by
  refine ⟨s.port_retireWeb k l, fun m => ?_⟩
  rw [State.track_retireWeb]
  split
  · exact ⟨(List.dropWhile_sublist _).map _, .refl _, le_rfl, .inl ⟨rfl, .inl rfl⟩, id⟩
  · exact .refl _

theorem State.shrinks_voidGate (s : State) (l : Lane) : s.Shrinks (s.voidGate l) :=
  s.shrinks_removeGate _ _ (fun c r g => r.track_countUnverified c g)

/-- Voiding leaves a lane no gate entry (R135). -/
theorem State.gateOf_voidGate (s : State) (l : Lane) : (s.voidGate l).gateOf l = [] := by
  have h : (s.voidGate l).gateOf l = (s.gateOf l).filter (fun c => !decide (c.lane = l)) :=
    congrArg Track.gate (s.track_removeGate _ _ (fun c r g => r.track_countUnverified c g) l)
  rw [h, State.gateOf, ofLane, List.filter_filter]
  simp

theorem shrinks_gapPart (last k : Index) (n : Nat) (l : Lane) (s : State) : s.Shrinks (gapPart last k n l s) := by
  unfold gapPart
  split
  · exact s.shrinks_voidGate l
  · exact s.shrinks_retireWeb k l
  · exact s.shrinks_mapWeb l _ (fun c => by simp)
  · exact .refl s

theorem shrinks_gapHandling (last k : Index) (order : List Lane) (s : State) : s.Shrinks (gapHandling last k order s) :=
  gapHandling_keeps (s.Shrinks ·) last k order s (s.shrinks_latchChip _ _) (fun n l t ht => ht.trans (shrinks_gapPart last k n l t))

/-- What losing its cards leaves of a lane's track (R139). -/
theorem State.track_loseWeb (s : State) (l m : Lane) :
    (s.loseWeb l).track m = if l = m then { s.track m with web := [] } else s.track m := by
  have h : (s.loseWeb l).track = (s.updLane l (fun r => { r with web := [] })).track :=
    foldl_keeps (fun t : State => t.track = _) _ _ _ rfl (fun t c _ ht => by
      rw [t.track_count_free l _ c (by intros; rfl), ht])
  rw [h, State.track_updLane]
  rfl

@[simp] theorem State.port_loseWeb (s : State) (l : Lane) : (s.loseWeb l).port = s.port :=
  foldl_keeps (fun t : State => t.port = s.port) _ _ _ rfl (fun t c _ ht => by simpa using ht)

theorem State.shrinks_loseWeb (s : State) (l : Lane) : s.Shrinks (s.loseWeb l) := by
  refine ⟨s.port_loseWeb l, fun m => ?_⟩
  rw [State.track_loseWeb]
  split
  · exact ⟨by simp, .refl _, le_rfl, .inl ⟨rfl, .inl rfl⟩, id⟩
  · exact .refl _

/-! ## What a frame does besides -/

theorem State.shrinks_decideSwitch (s : State) (k : Index) : s.Shrinks (s.decideSwitch k) := by
  unfold State.decideSwitch
  split
  · exact .refl s
  · split
    · split
      · exact .of_eq rfl rfl
      · exact .of_eq rfl rfl
    · exact .refl s

theorem State.shrinks_clearPlans (s : State) : s.Shrinks s.clearPlans :=
  s.shrinks_eachLane _ (fun l t => t.shrinks_updLane_same l _ (by intros; rfl))

end Sys2Proof.Machine
end

section
/-! PROOFS. A sound track, which is what the laws of the lists, the lanes and the blind windows say of one lane; and what the punch, card
creation, the entry to IDLE and lost track make of a lane's track. -/

namespace Sys2Proof.Machine

open Sys2Proof.Safety

/-! ## Sound tracks -/

/-- What R17, R22, R39, R45, R49, R50 and R120 say of the track of lane `l`, and that a lane has left IDLE only when it was `ready`. -/
structure Track.Sound (l : Lane) (ready : Prop) (a : Track) : Prop where
  web : ∀ c ∈ a.web, c.lane = l ∧ c.gateIndex = none
  gate : ∀ c ∈ a.gate, c.gateIndex.isSome = true ∧ c.reasons ≠ []
  idle : a.state = .idle → a.web = [] ∧ a.gate = []
  changeover : ¬ (a.state = .run ∨ a.state = .drain) → a.changeover = none
  blind : 0 < a.blind → a.state = .fault ∧ a.web = [] ∧ a.blind ≤ 31
  ready : a.state ≠ .idle → ready

/-- Every lane's track is sound. -/
def TracksSound (ready : Lane → Prop) (s : State) : Prop := ∀ l, (s.track l).Sound l (ready l)

theorem Track.Shrinks.web_eq_nil {a b : Track} (h : a.Shrinks b) (ha : a.web = []) : b.web = [] := by
  have hw := h.web
  rw [ha] at hw
  simpa using hw

theorem Track.Shrinks.gate_eq_nil {a b : Track} (h : a.Shrinks b) (ha : a.gate = []) : b.gate = [] := by
  have hg := h.gate
  rw [ha] at hg
  simpa using hg

/-- A card that stays was there, with the same lane, formed index and gate index. -/
theorem Track.Shrinks.exists_web {a b : Track} (h : a.Shrinks b) {c : Card} (hc : c ∈ b.web) : ∃ d ∈ a.web, d.ident = c.ident :=
  List.mem_map.1 (h.web.subset (List.mem_map_of_mem hc))

/-- A lane that is not IDLE was not. -/
theorem Track.Shrinks.awake {a b : Track} (h : a.Shrinks b) (hb : b.state ≠ .idle) : a.state ≠ .idle := by
  rcases h.lane with ⟨hs, -⟩ | ⟨hw, -, -⟩
  · rwa [← hs]
  · rcases hw with hw | hw <;> simp [hw]

/-- A sound track that shrinks stays sound. -/
theorem Track.Sound.shrinks {l : Lane} {ready : Prop} {a b : Track} (ha : a.Sound l ready) (h : a.Shrinks b) : b.Sound l ready where
  web c hc := by
    obtain ⟨d, hd, hi⟩ := h.exists_web hc
    obtain ⟨hl, hg⟩ := ha.web d hd
    obtain ⟨il, -, ig⟩ := (Card.ident_eq_iff d c).1 hi
    exact ⟨by rw [← il, hl], by rw [← ig, hg]⟩
  gate c hc := ha.gate c (h.gate.subset hc)
  idle hb := by
    rcases h.lane with ⟨hs, -⟩ | ⟨-, hs, -⟩
    · obtain ⟨hw, hg⟩ := ha.idle (by rw [← hs, hb])
      exact ⟨h.web_eq_nil hw, h.gate_eq_nil hg⟩
    · simp [hs] at hb
  changeover hb := by
    rcases h.lane with ⟨hs, hc | hc⟩ | ⟨-, -, hc⟩
    · rw [hc]; exact ha.changeover (by rwa [← hs])
    · exact hc
    · exact hc
  blind hb := by
    obtain ⟨hs, hw, hle⟩ := ha.blind (lt_of_lt_of_le hb h.blind)
    refine ⟨?_, h.web_eq_nil hw, h.blind.trans hle⟩
    rcases h.lane with ⟨g, -⟩ | ⟨-, g, -⟩
    · rw [g, hs]
    · exact g
  ready hb := ha.ready (h.awake hb)

theorem TracksSound.shrinks {ready : Lane → Prop} {s t : State} (hs : TracksSound ready s) (h : s.Shrinks t) : TracksSound ready t :=
  fun l => (hs l).shrinks (h.2 l)

theorem TracksSound.of_eq {ready : Lane → Prop} {s t : State} (hs : TracksSound ready s) (h : t.track = s.track) :
    TracksSound ready t := fun l => by rw [h]; exact hs l

/-- One lane's track is replaced by a sound one. -/
theorem TracksSound.update {ready : Lane → Prop} {s t : State} {l : Lane} {b : Track} (hs : TracksSound ready s)
    (h : t.track = Function.update s.track l b) (hb : b.Sound l (ready l)) : TracksSound ready t := by
  intro m
  rw [h]
  by_cases hm : m = l
  · subst hm; simpa using hb
  · simpa [hm] using hs m

/-! ## One lane's track replaced -/

theorem State.track_setLane_update (s : State) (l : Lane) (r : LaneRec) :
    (s.setLane l r).track = Function.update s.track l (r.track (s.gateOf l)) := by
  funext m
  rw [State.track_setLane, Function.update_apply]
  split
  · next h => subst h; simp
  · next h => rw [if_neg (Ne.symm h)]

theorem State.track_updLane_update (s : State) (l : Lane) (f : LaneRec → LaneRec) :
    (s.updLane l f).track = Function.update s.track l ((f (s.lane l)).track (s.gateOf l)) := s.track_setLane_update l _

/-- A card joins the gate list as the youngest entry of its lane (R26). -/
theorem State.track_appendGate (s : State) (c : Card) :
    State.track { s with gate := s.gate ++ [c] } =
      Function.update s.track c.lane { s.track c.lane with gate := s.gateOf c.lane ++ [c] } := by
  funext m
  have hg : ofLane m (s.gate ++ [c]) = s.gateOf m ++ if c.lane = m then [c] else [] := by
    rw [ofLane, List.filter_append]
    split
    · next h => rw [List.filter_singleton]; simp [h, State.gateOf, ofLane]
    · next h => rw [List.filter_singleton]; simp [h, State.gateOf, ofLane]
  show (s.lane m).track (ofLane m (s.gate ++ [c])) = _
  rw [hg, Function.update_apply]
  split
  · next h => subst h; simp; rfl
  · next h => rw [if_neg (Ne.symm h), List.append_nil]; rfl

/-! ## Stage 4 -/

/-- What the punch at index `k` makes of a track (R117 to R120): a blind window falls by one; with no card at position `e` nothing
changes; a card there leaves the web list, and when it is rejected it joins the gate entries with the gate index `k` and a reason. -/
inductive Track.Punched (k : Index) (e : Nat) (a : Track) : Track → Prop where
  | blind (h : 0 < a.blind) : Punched k e a { a with blind := a.blind - 1 }
  | blank (h : a.blind = 0) (hw : ∀ c rest, a.web = c :: rest → c.position k ≠ e) : Punched k e a a
  | passed (c : Card) (rest : List Card) (hw : a.web = c :: rest) (hp : c.position k = e) : Punched k e a { a with web := rest }
  | rejected (c d : Card) (rest : List Card) (hw : a.web = c :: rest) (hp : c.position k = e) (hl : d.lane = c.lane)
      (hg : d.gateIndex = some k) (hr : d.reasons ≠ []) : Punched k e a { a with web := rest, gate := a.gate ++ [d] }

/-- The batches are no part of the track (R125, R126). -/
theorem LaneRec.track_passEvents (c : Card) (recipe : Recipe) (r : LaneRec) (g : List Card) :
    (r.passEvents c recipe).1.track g = r.track g := by
  unfold LaneRec.passEvents
  cases h : r.openBatch with
  | none => simp only [h]; split <;> rfl
  | some b =>
    by_cases hb : b.sku = c.sku
    · simp only [if_pos hb, h]; split <;> rfl
    · simp only [if_neg hb, LaneRec.bump_openBatch]; split <;> rfl

theorem State.track_passAtPunch (s : State) (l : Lane) (c : Card) :
    (s.passAtPunch l c).1.track = Function.update s.track l { s.track l with web := (s.lane l).web.tail } := by
  unfold State.passAtPunch
  simp only [State.track_freeRecord, State.track_setLane_update]
  congr 1
  have h := LaneRec.track_passEvents c (s.recipeOf c) (s.lane l) (s.gateOf l)
  have hweb := congrArg Track.web h
  simp only [LaneRec.track_web] at hweb
  exact (congrArg (fun a : Track => { a with web := a.web.tail }) h)

theorem State.track_rejectAtPunch (s : State) (k : Index) (l : Lane) (c : Card) (hl : c.lane = l) :
    (s.rejectAtPunch k l c).track = Function.update s.track l { s.track l with
      web := (s.lane l).web.tail
      gate := s.gateOf l ++ [{ c.addReasonIf (s.lane l).force .forced with gateIndex := some k }] } := by
  subst hl
  unfold State.rejectAtPunch
  simp only
  refine (State.track_appendGate _ _).trans ?_
  simp only [Card.addReasonIf_lane, State.track_updLane_update, Function.update_self, Function.update_idem]
  rfl

@[simp] theorem State.port_passAtPunch (s : State) (l : Lane) (c : Card) : (s.passAtPunch l c).1.port = s.port := by
  simp [State.passAtPunch]

@[simp] theorem State.port_rejectAtPunch (s : State) (k : Index) (l : Lane) (c : Card) : (s.rejectAtPunch k l c).port = s.port := rfl

/-- The punch changes the track of its lane alone (R117). -/
theorem State.punch_cases (s : State) (k : Index) (l : Lane) (hl : ∀ c ∈ (s.lane l).web, c.lane = l) :
    (s.punch k l).1.port = s.port ∧
      ∃ b, (s.track l).Punched k s.map.e b ∧ (s.punch k l).1.track = Function.update s.track l b := by
  unfold State.punch
  split
  · next h => exact ⟨rfl, _, .blind h, by rw [State.track_updLane_update]; rfl⟩
  · next h =>
    have h0 : (s.track l).blind = 0 := by simpa using h
    have hsame := s.track_updLane_same l (fun r => { r with blindAnswer := false }) (by intros; rfl)
    simp only [State.lane_updLane_self]
    split
    · next hw => exact ⟨rfl, s.track l, .blank h0 (by simp [hw]), by simp [hsame]⟩
    · next c rest hw =>
      split
      · next hp =>
        split
        · refine ⟨by simp, _, .passed c rest hw hp, ?_⟩
          rw [State.track_passAtPunch, hsame]
          simp [hw]
        · next hr =>
          refine ⟨rfl, _, .rejected c { c.addReasonIf (s.lane l).force .forced with gateIndex := some k } rest hw hp (by simp) rfl ?_, ?_⟩
          · by_cases hf : (s.lane l).force = true
            · simpa [Card.addReasonIf, hf] using Card.reasons_addReason_ne_nil .forced c
            · simpa [Card.addReasonIf, hf] using hr
          · rw [State.track_rejectAtPunch _ _ _ _ (hl c (by simp [hw])), hsame]
            simp [hw]
            rfl
      · next hp => exact ⟨rfl, s.track l, .blank h0 (by intro c' rest' h'; cases hw.symm.trans h'; exact hp), by simp [hsame]⟩

/-- Stage 4 does to the tracks what the punch does. -/
theorem stage4_cases (k : Index) (l : Lane) (s : State) (hl : ∀ c ∈ (s.lane l).web, c.lane = l) :
    (stage4 k l s).port = s.port ∧
      ∃ b, (s.track l).Punched k s.map.e b ∧ (stage4 k l s).track = Function.update s.track l b := by
  obtain ⟨hp, b, hb, ht⟩ := s.punch_cases k l hl
  refine ⟨hp, b, hb, ?_⟩
  rw [← ht]
  exact State.track_updLane_same _ l _ (by intros; rfl)

theorem Track.Sound.punched {l : Lane} {ready : Prop} {k : Index} {e : Nat} {a b : Track} (ha : a.Sound l ready)
    (h : a.Punched k e b) : b.Sound l ready := by
  cases h with
  | blind h => exact ha.shrinks ⟨.refl _, .refl _, Nat.sub_le _ _, .inl ⟨rfl, .inl rfl⟩, id⟩
  | blank h hw => exact ha
  | passed c rest hw hp => exact ha.shrinks ⟨by simp [hw], .refl _, le_rfl, .inl ⟨rfl, .inl rfl⟩, id⟩
  | rejected c d rest hw hp hl hg hr =>
    have hawake : a.state ≠ .idle := fun hi => by simp [(ha.idle hi).1] at hw
    have hblind : ¬ 0 < a.blind := fun hb => by simp [(ha.blind hb).2.1] at hw
    refine ⟨fun x hx => ha.web x (by simp [hw, hx]), fun x hx => ?_, fun hi => absurd hi hawake, ha.changeover,
      fun hb => absurd hb hblind, ha.ready⟩
    rcases List.mem_append.1 hx with hx | hx
    · exact ha.gate x hx
    · obtain rfl : x = d := by simpa using hx
      exact ⟨by simp [hg], hr⟩

/-! ## Stage 5 -/

/-- Card creation at index `k` (R29): a card of the lane, formed at `k` and with no gate entry, joins the web list as the youngest. -/
theorem State.createCard_cases (s : State) (l : Lane) (k : Index) :
    (s.createCard l k).port = s.port ∧ ((s.createCard l k).track = s.track ∨
      ∃ c : Card, c.lane = l ∧ c.formed = k ∧ c.gateIndex = none ∧
        (s.createCard l k).track = Function.update s.track l { s.track l with web := (s.lane l).web ++ [c] }) := by
  unfold State.createCard
  split
  · exact ⟨rfl, .inl rfl⟩
  · next n rest _ =>
    refine ⟨by rw [State.port_updRefs]; rfl, .inr ⟨{
      record := n, serial := s.serial, lane := l, formed := k, bank := s.active, entry := (s.lane l).assigned,
      sku := (s.entry s.active (s.lane l).assigned).fields.sku, commanded := ⟨false, false, false, false⟩, loadResult := none,
      inspection := none, placed := none, sealRec := none, reasons := [], gateIndex := none }, rfl, rfl, rfl, ?_⟩⟩
    rw [State.track_updRefs, State.track_updLane_update]
    rfl

theorem stage5_cases (k : Index) (l : Lane) (s : State) :
    (stage5 k l s).port = s.port ∧ ((stage5 k l s).track = s.track ∨
      (s.lane l).state = .run ∧ ∃ c : Card, c.lane = l ∧ c.formed = k ∧ c.gateIndex = none ∧
        (stage5 k l s).track = Function.update s.track l { s.track l with web := (s.lane l).web ++ [c] }) := by
  unfold stage5
  split
  · next h =>
    obtain ⟨hp, ht | hc⟩ := s.createCard_cases l k
    · exact ⟨hp, .inl ht⟩
    · exact ⟨hp, .inr ⟨h, hc⟩⟩
  · exact ⟨rfl, .inl rfl⟩

/-- A lane in RUN takes a new card (R29). -/
theorem Track.Sound.created {l : Lane} {ready : Prop} {a : Track} (ha : a.Sound l ready) (hs : a.state = .run) {c : Card}
    (hl : c.lane = l) (hg : c.gateIndex = none) : Track.Sound l ready { a with web := a.web ++ [c] } where
  web x hx := by
    rcases List.mem_append.1 hx with hx | hx
    · exact ha.web x hx
    · obtain rfl : x = c := by simpa using hx
      exact ⟨hl, hg⟩
  gate := ha.gate
  idle hi := by simp [hs] at hi
  changeover := ha.changeover
  blind hb := by simp [(ha.blind hb).1] at hs
  ready := ha.ready

/-! ## Stage 7 -/

/-- The run-end close touches the batches alone (R127). -/
theorem LaneRec.track_runEndClose (mode : Option CloseMode) (full : Bool) (r : LaneRec) (g : List Card) :
    (r.runEndClose mode full).1.track g = r.track g := by
  unfold LaneRec.runEndClose
  split
  · split <;> rfl
  · split <;> rfl

/-- Stage 7 takes a draining lane with no card left to IDLE, and does nothing else to a track (R43). -/
theorem stage7_cases (l : Lane) (s : State) :
    (stage7 l s).port = s.port ∧ ((stage7 l s).track = s.track ∨
      (s.lane l).state = .drain ∧ (s.lane l).web = [] ∧ s.gateOf l = [] ∧
        (stage7 l s).track = Function.update s.track l { s.track l with state := .idle, changeover := none }) := by
  unfold stage7
  simp only
  split
  · next h =>
    refine ⟨rfl, .inr ⟨h.1, h.2.1, h.2.2, ?_⟩⟩
    rw [State.track_setLane_update]
    congr 1
    exact LaneRec.track_runEndClose _ _ (s.lane l).enterIdle (s.gateOf l)
  · exact ⟨rfl, .inl rfl⟩

/-- A lane without a card and without a blind window enters IDLE (R43, R48). -/
theorem Track.Sound.enterIdle {l : Lane} {ready : Prop} {a : Track} (ha : a.Sound l ready) (hw : a.web = []) (hg : a.gate = [])
    (hb : a.blind = 0) : Track.Sound l ready { a with state := .idle, changeover := none } :=
  ⟨ha.web, ha.gate, fun _ => ⟨hw, hg⟩, fun _ => rfl, fun h => by simp [hb] at h, fun h => absurd rfl h⟩

/-- A lane in RUN or DRAIN has no blind window (R49). -/
theorem Track.Sound.blind_eq_zero {l : Lane} {ready : Prop} {a : Track} (ha : a.Sound l ready) (hs : a.state ≠ .fault) : a.blind = 0 := by
  by_contra hb
  exact hs (ha.blind (Nat.pos_of_ne_zero hb)).1

/-! ## The pitch steps -/

/-- No stage touches the port. -/
theorem port_runStage (x : StepCtx) (n : Nat) (l : Lane) (s : State) : (runStage x n l s).port = s.port := by
  have h4 : (stage4 x.index l s).port = s.port := by
    have hplan : ∀ u : State, ∀ f, (State.updLane u l f).port = u.port := fun _ _ => rfl
    unfold stage4 State.punch
    simp only [hplan]
    split
    · rfl
    · split
      · rfl
      · split
        · split <;> simp
        · rfl
  unfold runStage
  split
  · exact (shrinks_stage1 _ _ _ l s).1
  · exact (shrinks_stage2 _ l s).1
  · exact (shrinks_stage3 _ l s).1
  · exact h4
  · exact (stage5_cases _ l s).1
  · exact (shrinks_stage6 _ l s).1
  · exact (State.shrinks_faultAfterStep _ l).1.trans (stage7_cases l s).1
  · rfl

/-- Every stage keeps the tracks sound (R55). -/
theorem TracksSound.runStage {ready : Lane → Prop} {s : State} (hs : TracksSound ready s) (x : StepCtx) (n : Nat) (l : Lane) :
    TracksSound ready (runStage x n l s) := by
  unfold Machine.runStage
  split
  · exact hs.shrinks (shrinks_stage1 _ _ _ l s)
  · exact hs.shrinks (shrinks_stage2 _ l s)
  · exact hs.shrinks (shrinks_stage3 _ l s)
  · obtain ⟨-, b, hb, ht⟩ := stage4_cases x.index l s (fun c hc => ((hs l).web c hc).1)
    exact hs.update ht ((hs l).punched hb)
  · obtain ⟨-, ht | ⟨hr, c, hl, -, hg, ht⟩⟩ := stage5_cases x.index l s
    · exact hs.of_eq ht
    · exact hs.update ht ((hs l).created hr hl hg)
  · exact hs.shrinks (shrinks_stage6 _ l s)
  · refine TracksSound.shrinks ?_ (State.shrinks_faultAfterStep _ l)
    obtain ⟨-, ht | ⟨hd, hw, hg, ht⟩⟩ := stage7_cases l s
    · exact hs.of_eq ht
    · have hb : (s.track l).blind = 0 := (hs l).blind_eq_zero (by simp [hd])
      exact hs.update ht ((hs l).enterIdle hw hg hb)
  · exact hs

/-- The pitch steps touch no port, in any order of lanes, stages and conversions. -/
theorem port_runPitchSteps (x : StepCtx) (ticks : List Tick) (s : State) : (runPitchSteps x ticks s).port = s.port :=
  runPitchSteps_keeps (fun t => t.port = s.port) x ticks s rfl (fun n l t ht => (port_runStage x n l t).trans ht)
    (fun raw inStep t _ ht => (t.shrinks_convert raw inStep).1.trans ht)

/-- The pitch steps of a frame keep the tracks sound. -/
theorem TracksSound.runPitchSteps {ready : Lane → Prop} {s : State} (hs : TracksSound ready s) (x : StepCtx) (ticks : List Tick) :
    TracksSound ready (runPitchSteps x ticks s) :=
  runPitchSteps_keeps (TracksSound ready) x ticks s hs (fun n l _ ht => ht.runStage x n l)
    (fun raw inStep t _ ht => ht.shrinks (t.shrinks_convert raw inStep))

/-! ## Lost track -/

/-- After every web list has been lost no lane has a card on its web (R139). -/
theorem State.track_loseWebs (ls : List Lane) (s : State) (m : Lane) :
    (ls.foldl (fun t l => t.loseWeb l) s).track m = if m ∈ ls then { s.track m with web := [] } else s.track m := by
  induction ls generalizing s with
  | nil => rfl
  | cons l ls ih =>
    rw [List.foldl_cons, ih, State.track_loseWeb]
    by_cases hl : l = m
    · subst hl; simp
    · simp [hl, Ne.symm hl]

/-- The first part of lost track: every card is off its list (R28, R139). -/
theorem State.track_loseCards (s : State) (m : Lane) :
    ((s.removeGate (fun _ => true) LaneRec.countUnverified).eachLane (fun l t => t.loseWeb l)).track m =
      { s.track m with web := [], gate := [] } := by
  rw [State.eachLane, State.track_loseWebs, if_pos (List.mem_finRange m),
    s.track_removeGate _ _ (fun c r g => r.track_countUnverified c g)]
  simp

/-- The second part of lost track, for one lane (R140). -/
theorem State.track_loseLane (s : State) (last k : Index) (l : Lane) :
    (s.loseLane last k l).track = if (s.lane l).state = .idle then s.track
      else Function.update s.track l { (s.lane l).enterFault.track (s.gateOf l) with blind := s.map.e } := by
  unfold State.loseLane
  split
  · rfl
  · rw [State.track_latchLane, State.track_updLane_update]; rfl

@[simp] theorem State.port_loseLane (s : State) (last k : Index) (l : Lane) : (s.loseLane last k l).port = s.port := by
  unfold State.loseLane; split <;> rfl

/-- The Station Map's values are part of the port. -/
theorem map_eq_of_port {s t : State} (h : t.port = s.port) : t.map = s.map := by
  simpa [State.map] using congrArg (fun u : State => mapOf u.stations) h

/-- The punch offset of a Station Map in range, or of none, is at most 31 (R2). -/
theorem map_e_le (s : State) (h : ∀ m ∈ s.stations, m.inRange = true) : s.map.e ≤ 31 := by
  unfold State.map
  cases hm : s.stations with
  | none => simp [mapOf]
  | some m =>
    have := h m hm
    simp only [StationMap.inRange, Bool.and_eq_true, decide_eq_true_eq] at this
    simp only [mapOf, Option.getD_some]
    omega

/-- A lane without cards that is not IDLE takes a blind window as it enters FAULT (R140). -/
theorem Track.Sound.blinded {l : Lane} {ready : Prop} {r : LaneRec} {g : List Card} (ha : (r.track g).Sound l ready)
    (hi : r.state ≠ .idle) (hw : r.web = []) {e : Nat} (he : e ≤ 31) :
    Track.Sound l ready { r.enterFault.track g with blind := e } := by
  have hb := ha.shrinks (r.shrinks_enterFault g)
  have hf : r.enterFault.state = .fault := by
    rw [LaneRec.enterFault_eq]
    split
    · rfl
    · next h => cases hs : r.state <;> simp_all
  exact ⟨hb.web, hb.gate, hb.idle, hb.changeover, fun _ => ⟨hf, by simpa using hw, he⟩, hb.ready⟩

theorem State.shrinks_loseCards (s : State) :
    s.Shrinks ((s.removeGate (fun _ => true) LaneRec.countUnverified).eachLane (fun l t => t.loseWeb l)) :=
  (s.shrinks_removeGate _ _ (fun c r g => r.track_countUnverified c g)).trans
    (State.shrinks_eachLane _ _ (fun l t => t.shrinks_loseWeb l))

@[simp] theorem port_lostTrack (last k : Index) (s : State) : (lostTrack last k s).port = s.port :=
  State.eachLane_keeps (fun t => t.port = s.port) _ _ s.shrinks_loseCards.1 (fun l t ht => (t.port_loseLane last k l).trans ht)

/-- What lost track leaves: sound tracks, and no card on any list (R139, R140). -/
theorem TracksSound.lostTrack {ready : Lane → Prop} {s : State} (hs : TracksSound ready s) (last k : Index) (he : s.map.e ≤ 31) :
    TracksSound ready (lostTrack last k s) ∧
      ∀ m, ((lostTrack last k s).track m).web = [] ∧ ((lostTrack last k s).track m).gate = [] := by
  have hcards := s.shrinks_loseCards
  refine And.right (a := (Machine.lostTrack last k s).port = s.port) ?_
  refine State.eachLane_keeps (fun t => t.port = s.port ∧ TracksSound ready t ∧
    ∀ m, (t.track m).web = [] ∧ (t.track m).gate = []) _ _ ⟨hcards.1, hs.shrinks hcards, fun m => ?_⟩ (fun l t ⟨hp, ht, hn⟩ => ?_)
  · rw [State.track_loseCards]; exact ⟨rfl, rfl⟩
  · refine ⟨(t.port_loseLane last k l).trans hp, ?_⟩
    have htrack := t.track_loseLane last k l
    split at htrack
    · exact ⟨ht.of_eq htrack, fun m => by rw [htrack]; exact hn m⟩
    · next hi =>
      have hmap : t.map.e ≤ 31 := by rw [map_eq_of_port hp]; exact he
      refine ⟨ht.update htrack ((ht l).blinded hi (hn l).1 hmap), fun m => ?_⟩
      rw [htrack, Function.update_apply]
      split
      · next h => subst h; simpa using hn m
      · exact hn m

end Sys2Proof.Machine
end

section
/-! PROOFS. What a cycle frame leaves of the port and of the tracks: the parts before the pitch steps, the pitch steps, and the slots written
after them. -/

namespace Sys2Proof.Machine

open Sys2Proof.Safety

/-! ## Classes -/

/-- A frame is a repeat exactly when it carries the last index (R9). -/
theorem classify_eq_again (last : Option Index) (k : Index) : classify last k = .again ↔ last = some k := by
  unfold classify
  cases last with
  | none => simp
  | some l =>
    have h : (k - l).toNat = 0 ↔ l = k := by
      rw [← BitVec.toNat_inj (x := l) (y := k), BitVec.toNat_sub]
      have := l.isLt
      have := k.isLt
      omega
    simp only [Option.some.injEq, ← h]
    split
    · next h0 => simp [h0]
    · next h0 => simp only [h0, iff_false]; split <;> [simp; split <;> simp]

/-- A class but the first is that of a frame after a last index (R9). -/
theorem exists_last_of_classify {last : Option Index} {k : Index} (h : classify last k ≠ .first) : ∃ l, last = some l := by
  cases last with
  | none => exact absurd rfl h
  | some l => exact ⟨l, rfl⟩

/-! ## Before the pitch steps -/

theorem State.takeRole_eq (s : State) : s.takeRole = { s with role := s.pendingRole.getD s.role, pendingRole := none } := by
  obtain ⟨power, bypdrv, nodeAddr, role, pendingRole⟩ := s
  cases pendingRole <;> rfl

@[simp] theorem port_continuity (cls : FrameClass) (k : Index) (gapOrder : List Lane) (s : State) :
    (continuity cls k gapOrder s).port = s.port := by
  unfold continuity
  split
  · rfl
  · exact (shrinks_gapHandling _ k gapOrder s).1
  · exact port_lostTrack _ k s
  · rfl

/-- The state in which the continuity handling begins: the timer restarted and the pending role taken (R13, R143). -/
def frameTaken (cls : FrameClass) (s : State) : State :=
  { s with timer := s.timer.frame cls, role := s.pendingRole.getD s.role, pendingRole := none }

/-- What an accepted frame does after the continuity handling: the last index, the bank switch and the cleared plans (R132). -/
def frameAccepted (k : Index) (s : State) : State := ({ s with lastIndex := some k }.decideSwitch k).clearPlans

theorem beginCycle_eq (f : Frame) (cls : FrameClass) (gapOrder : List Lane) (s : State) :
    beginCycle f cls gapOrder s =
      if cls = .again then continuity cls (frameIndex f) gapOrder (frameTaken cls s)
      else frameAccepted (frameIndex f) (continuity cls (frameIndex f) gapOrder (frameTaken cls s)) := by
  unfold beginCycle
  simp only [State.takeRole_eq]
  rfl

/-- Accepting a frame shrinks the tracks and sets the last index. -/
theorem shrinks_frameAccepted (k : Index) (s : State) : State.Shrinks { s with lastIndex := some k } (frameAccepted k s) :=
  (State.shrinks_decideSwitch _ k).trans (State.shrinks_clearPlans _)

/-- What stands of the port when the pitch steps begin (R13, R132, R143): at a repeat the last index is the frame's already. -/
theorem port_beginCycle (f : Frame) (gapOrder : List Lane) (s : State) :
    (beginCycle f (classify s.lastIndex (frameIndex f)) gapOrder s).port = { s.port with
      timer := s.timer.frame (classify s.lastIndex (frameIndex f))
      role := s.pendingRole.getD s.role
      pendingRole := none
      lastIndex := some (frameIndex f) } := by
  rw [beginCycle_eq]
  split
  · next h =>
    rw [port_continuity, ← (classify_eq_again _ _).1 h]
    rfl
  · exact (shrinks_frameAccepted _ _).1.trans (congrArg (fun u : State => { u with lastIndex := some (frameIndex f) })
      (port_continuity _ _ gapOrder (frameTaken _ s)))

/-- Continuity handling keeps the tracks sound (R133 to R140). -/
theorem TracksSound.continuity {ready : Lane → Prop} {s : State} (hs : TracksSound ready s) (cls : FrameClass) (k : Index)
    (gapOrder : List Lane) (he : s.map.e ≤ 31) : TracksSound ready (continuity cls k gapOrder s) := by
  unfold Machine.continuity
  split
  · exact hs
  · exact hs.shrinks (shrinks_gapHandling _ k gapOrder s)
  · exact (hs.lostTrack _ k he).1
  · exact hs

theorem TracksSound.beginCycle {ready : Lane → Prop} {s : State} (hs : TracksSound ready s) (f : Frame) (cls : FrameClass)
    (gapOrder : List Lane) (he : s.map.e ≤ 31) : TracksSound ready (beginCycle f cls gapOrder s) := by
  have hc : TracksSound ready (Machine.continuity cls (frameIndex f) gapOrder (frameTaken cls s)) :=
    TracksSound.continuity (s := frameTaken cls s) hs cls _ gapOrder he
  rw [beginCycle_eq]
  split
  · exact hc
  · exact TracksSound.shrinks (hc.of_eq (t := { Machine.continuity cls (frameIndex f) gapOrder (frameTaken cls s) with
      lastIndex := some (frameIndex f) }) rfl) (shrinks_frameAccepted _ _)

/-! ## The slots and the frame's end -/

/-- No ring counter stands above 65535 (R146). -/
def RingCounters.InRange (r : RingCounters) : Prop :=
  r.discarded ≤ 65535 ∧ r.crcErrors ≤ 65535 ∧ r.slotsAbsent ≤ 65535 ∧ r.unverified ≤ 65535 ∧ r.mismatches ≤ 65535

theorem hold16_le (n : Nat) : hold16 n ≤ 65535 := by unfold hold16; omega

theorem RingCounters.InRange.addDiscarded {r : RingCounters} (h : r.InRange) : r.addDiscarded.InRange := by
  obtain ⟨-, hcrc, habsent, hunverified, hmismatch⟩ := h
  exact ⟨hold16_le _, hcrc, habsent, hunverified, hmismatch⟩

theorem RingCounters.InRange.addCrcError {r : RingCounters} (h : r.InRange) : r.addCrcError.InRange := by
  obtain ⟨hdiscarded, -, habsent, hunverified, hmismatch⟩ := h
  exact ⟨hdiscarded, hold16_le _, habsent, hunverified, hmismatch⟩

theorem RingCounters.InRange.addAbsent {r : RingCounters} (h : r.InRange) : r.addAbsent.InRange := by
  obtain ⟨hdiscarded, hcrc, -, hunverified, hmismatch⟩ := h
  exact ⟨hdiscarded, hcrc, hold16_le _, hunverified, hmismatch⟩

theorem RingCounters.InRange.addUnverified {r : RingCounters} (h : r.InRange) : r.addUnverified.InRange := by
  obtain ⟨hdiscarded, hcrc, habsent, -, hmismatch⟩ := h
  exact ⟨hdiscarded, hcrc, habsent, hold16_le _, hmismatch⟩

theorem RingCounters.InRange.addMismatch {r : RingCounters} (h : r.InRange) : r.addMismatch.InRange := by
  obtain ⟨hdiscarded, hcrc, habsent, hunverified, -⟩ := h
  exact ⟨hdiscarded, hcrc, habsent, hunverified, hold16_le _⟩

/-- What the slots may change of the state: chip and lane alarms, and the ring counters of absent, unverified and mismatched slots
(R149 to R152). -/
structure SlotsWritten (s t : State) : Prop where
  track : t.track = s.track
  port : t.port = { s.port with ring := t.ring }
  discarded : t.ring.discarded = s.ring.discarded
  crcErrors : t.ring.crcErrors = s.ring.crcErrors
  inRange : s.ring.InRange → t.ring.InRange

theorem SlotsWritten.refl (s : State) : SlotsWritten s s := ⟨rfl, rfl, rfl, rfl, id⟩

theorem SlotsWritten.trans {s t u : State} (h : SlotsWritten s t) (g : SlotsWritten t u) : SlotsWritten s u :=
  ⟨g.track.trans h.track, by rw [g.port, h.port], g.discarded.trans h.discarded, g.crcErrors.trans h.crcErrors,
    g.inRange ∘ h.inRange⟩

/-- The counters of absent, unverified and mismatched slots are all that a slot changes of the ring counters. -/
theorem SlotsWritten.ring (s : State) (r : RingCounters) (hd : r.discarded = s.ring.discarded) (hc : r.crcErrors = s.ring.crcErrors)
    (hr : s.ring.InRange → r.InRange) : SlotsWritten s { s with ring := r } := ⟨rfl, rfl, hd, hc, hr⟩

theorem SlotsWritten.latchChip (s : State) (a : ChipAlarm) (d : List Byte) : SlotsWritten s (s.latchChip a d) :=
  ⟨rfl, rfl, rfl, rfl, id⟩

theorem SlotsWritten.latchLane (s : State) (l : Lane) (a : LaneAlarm) (d : List Byte) : SlotsWritten s (s.latchLane l a d) :=
  ⟨s.track_latchLane l a d, rfl, rfl, rfl, id⟩

theorem slotsWritten_writeCommand (isRepeat : Bool) (i : Nat) (kind : Kind) (l : Lane) (w : Work) :
    SlotsWritten w.state (writeCommand isRepeat i kind l w).state := by
  unfold writeCommand
  split
  · exact .refl _
  · split
    · simp only
      split
      · exact .refl _
      · exact .latchChip _ _ _
    · exact .ring _ _ rfl rfl (·.addAbsent)

theorem slotsWritten_compareCommand (isRepeat : Bool) (i : Nat) (kind : Kind) (l : Lane) (w : Work) :
    SlotsWritten w.state (compareCommand isRepeat i kind l w).state := by
  unfold compareCommand
  simp only
  split
  · split
    · exact .refl _
    · exact .ring _ _ rfl rfl (·.addUnverified)
    · exact (SlotsWritten.ring w.state w.state.ring.addMismatch rfl rfl (·.addMismatch)).trans (.latchLane _ _ _ _)
  · split
    · exact .ring _ _ rfl rfl (·.addAbsent)
    · exact .refl _

theorem slotsWritten_commandSlot (isRepeat : Bool) (w : Work) (entry : SlotUse × Nat) :
    SlotsWritten w.state (commandSlot isRepeat w entry).state := by
  unfold commandSlot
  split
  · split
    · exact slotsWritten_writeCommand _ _ _ _ w
    · exact slotsWritten_compareCommand _ _ _ _ w
    · exact .refl _
  all_goals exact .refl _

theorem slotsWritten_writeStatus (w : Work) : SlotsWritten w.state (writeStatus w).state := by
  unfold writeStatus
  split
  · exact .refl _
  · split
    · exact .refl _
    · exact .ring _ _ rfl rfl (·.addAbsent)

theorem slotsWritten_finishCycle (isRepeat : Bool) (f : Frame) (s : State) : SlotsWritten s (finishCycle isRepeat f s).state :=
  finishCycle_keeps (fun w => SlotsWritten s w.state) isRepeat f s (.refl s) (fun w e h => h.trans (slotsWritten_commandSlot isRepeat w e))
    (fun w h => h.trans (slotsWritten_writeStatus w)) (fun _ h => h)

/-! ## The whole of a cycle frame -/

/-- The state in which the slots of a cycle frame are written: after its pitch steps. -/
def stepped (f : Frame) (gapOrder : List Lane) (ticks : List Tick) (s : State) : State :=
  runPitchSteps (stepCtx f (classify s.lastIndex (frameIndex f))) ticks (beginCycle f (classify s.lastIndex (frameIndex f)) gapOrder s)

theorem processCycle_eq (f : Frame) (gapOrder : List Lane) (ticks : List Tick) (s : State) :
    processCycle f gapOrder ticks s =
      finishCycle (classify s.lastIndex (frameIndex f) = .again) f (stepped f gapOrder ticks s) := rfl

theorem port_stepped (f : Frame) (gapOrder : List Lane) (ticks : List Tick) (s : State) :
    (stepped f gapOrder ticks s).port = { s.port with
      timer := s.timer.frame (classify s.lastIndex (frameIndex f))
      role := s.pendingRole.getD s.role
      pendingRole := none
      lastIndex := some (frameIndex f) } := by
  rw [stepped, port_runPitchSteps, port_beginCycle]

theorem slotsWritten_processCycle (f : Frame) (gapOrder : List Lane) (ticks : List Tick) (s : State) :
    SlotsWritten (stepped f gapOrder ticks s) (processCycle f gapOrder ticks s).state := slotsWritten_finishCycle _ _ _

/-- What a cycle frame's work leaves of the port. -/
theorem port_processCycle (f : Frame) (gapOrder : List Lane) (ticks : List Tick) (s : State) :
    (processCycle f gapOrder ticks s).state.port = { s.port with
      timer := s.timer.frame (classify s.lastIndex (frameIndex f))
      role := s.pendingRole.getD s.role
      pendingRole := none
      lastIndex := some (frameIndex f)
      ring := (processCycle f gapOrder ticks s).state.ring } := by
  rw [(slotsWritten_processCycle f gapOrder ticks s).port, port_stepped]

theorem TracksSound.processCycle {ready : Lane → Prop} {s : State} (hs : TracksSound ready s) (f : Frame) (gapOrder : List Lane)
    (ticks : List Tick) (he : s.map.e ≤ 31) : TracksSound ready (processCycle f gapOrder ticks s).state :=
  (TracksSound.runPitchSteps (hs.beginCycle f _ gapOrder he) _ ticks).of_eq (slotsWritten_processCycle f gapOrder ticks s).track

end Sys2Proof.Machine
end

section
/-! PROOFS. What one step can do, said once: what each request leaves of the state, what each command does, and what a step does. -/

namespace Sys2Proof.Machine

open Sys2Proof.Safety

/-! ## Requests -/

/-- What the requests of the Service Unit leave of the state (R160 to R175). -/
inductive Served (s : State) : State → Prop where
  /-- a read, or a refusal (R163) -/
  | kept : Served s s
  /-- MAP_SLOT taken (R148) -/
  | mapped (m : Vector SlotUse 48) (hidle : s.allIdle = true) (hm : slotMapDistinct m = true) : Served s { s with slotMap := m }
  /-- SET_STATIONS taken (R6) -/
  | placed (m : StationMap) (hidle : s.allIdle = true) (hgate : s.gate = []) (hm : m.inRange = true) :
      Served s (({ s with stations := some m } : State).eachView (fun v => { v with stations := some m }))
  /-- LOAD_RECIPE taken (R63) -/
  | loaded (b : Bank) (n : EntryNo) (r : Option Recipe) (hb : b ≠ s.active) (hrefs : (s.entry b n).refs = 0)
      (hr : ∀ x ∈ r, x.inRange = true) : Served s (s.setEntry b n { s.entry b n with recipe := r })
  /-- SWITCH_BANK taken (R66, R67) -/
  | switched (x : Option Index) : Served s { s with pendingSwitch := x }
  /-- LANE RUN from IDLE (R41) -/
  | started (l : Lane) (e : EntryNo) (hs : (s.lane l).state = .idle) (hm : s.stations ≠ none) (hmap : s.laneMapped l = true)
      (he : (s.entry s.active e).valid = true) : Served s (s.startLane l e)
  /-- LANE RUN from DRAIN, with an entry (R41) -/
  | reassigned (l : Lane) (e : EntryNo) (hs : (s.lane l).state = .drain) (he : (s.entry s.active e).valid = true) :
      Served s (s.updLane l (fun r => { r with state := .run, assigned := e }))
  /-- LANE RUN from DRAIN, without an entry (R41) -/
  | resumed (l : Lane) (hs : (s.lane l).state = .drain) : Served s (s.updLane l (fun r => { r with state := .run }))
  /-- LANE DRAIN of a lane in RUN (R42) -/
  | drained (l : Lane) (hs : (s.lane l).state = .run) : Served s (s.updLane l (fun r => { r with state := .drain }))
  /-- LANE PURGE of a lane in RUN or DRAIN (R44) -/
  | purged (l : Lane) (hs : Working (s.lane l)) :
      Served s (((s.mapWeb l (Card.addReason .lanePurge)).updLane l (fun r => { r with state := .drain })).eachView
        (CardView.purge l (s.lane l).web (Card.addReason .lanePurge)))
  /-- LANE CLEAR of an empty lane in FAULT (R48) -/
  | cleared (l : Lane) (hs : (s.lane l).state = .fault) (hw : (s.lane l).web = []) (hg : s.gateOf l = [])
      (hb : (s.lane l).blind = 0) : Served s (s.clearLane l)
  /-- LANE CHANGEOVER of a lane in RUN or DRAIN (R50) -/
  | scheduled (l : Lane) (ch : Changeover) (hs : Working (s.lane l)) :
      Served s (s.updLane l (fun r => { r with changeover := some ch }))
  /-- FORCE ON and OFF (R52) -/
  | forced (l : Lane) (b : Bool) : Served s (s.updLane l (fun r => { r with force := b }))
  /-- AUTO_PURGE ON and OFF (R53) -/
  | autoPurged (l : Lane) (b : Bool) : Served s (s.updLane l (fun r => { r with autoPurge := b }))
  /-- CLEAR_COUNTERS of every lane and the Ring Port (R169) -/
  | zeroedAll : Served s { s.eachLane (fun l t => t.updLane l LaneRec.clearCounters) with ring := ⟨0, 0, 0, 0, 0⟩ }
  /-- CLEAR_COUNTERS of one lane (R169) -/
  | zeroed (l : Lane) : Served s (s.updLane l LaneRec.clearCounters)
  /-- READ_ALARMS (R174) -/
  | alarmsRead (sc : Scope) : Served s (s.clearLatches sc).settleStop
  /-- SET_ALARM_MASKS taken (R175) -/
  | masked (summary stop : Byte) (sc : Scope) : Served s (s.maskScope summary stop sc).settleStop
  /-- SET_ZONE taken (R112) -/
  | zoneSet (l : Lane) (offset : Int) (limit : Nat) (ho : -7 ≤ offset ∧ offset ≤ 7) (hl : 1 ≤ limit ∧ limit ≤ 255) :
      Served s (s.setZone l { s.zone l with offset := offset, limit := limit })
  /-- READ_ZONES, with the conversions that end while the reply is written (R113) -/
  | zonesRead (raws : List RawCode) : Served s (raws.foldl (fun t raw => t.convert raw (fun _ => false)) s)
  /-- SET_ROLE taken (R143) -/
  | roleSet (r : Role) (hr : r ≠ .bypass) : Served s { s with pendingRole := some r }
  /-- RESTART (R170) -/
  | restarted : Served s s.restart

theorem served_decideIdentify (d : List Byte) (s : State) : Served s (decideIdentify d s).state := by
  unfold decideIdentify; split <;> exact .kept

theorem served_decideReadState (d : List Byte) (s : State) : Served s (decideReadState d s).state := by
  unfold decideReadState
  split
  · exact .kept
  · split <;> exact .kept

theorem served_decideMapSlot (d : List Byte) (s : State) : Served s (decideMapSlot d s).state := by
  unfold decideMapSlot
  simp only
  split
  · exact .kept
  · split
    · exact .kept
    · next hidle =>
      split
      · exact .kept
      · split
        · next hm => exact .mapped _ (by simpa using hidle) hm
        · exact .kept

theorem served_decideReadSlotMap (d : List Byte) (s : State) : Served s (decideReadSlotMap d s).state := by
  unfold decideReadSlotMap; split <;> exact .kept

theorem served_decideSetStations (d : List Byte) (s : State) : Served s (decideSetStations d s).state := by
  unfold decideSetStations
  split
  · exact .kept
  · split
    · exact .kept
    · next hidle =>
      split
      · exact .kept
      · next hm =>
        simp only [Bool.or_eq_true, Bool.not_eq_true', not_or, Bool.not_eq_false, List.isEmpty_iff] at hidle
        exact .placed _ hidle.1 hidle.2 (by simpa using hm)

theorem served_decideReadStations (d : List Byte) (s : State) : Served s (decideReadStations d s).state := by
  unfold decideReadStations; split <;> exact .kept

theorem served_decideLoadRecipe (d : List Byte) (s : State) : Served s (decideLoadRecipe d s).state := by
  unfold decideLoadRecipe
  split
  · exact .kept
  · split
    · next b n _ _ =>
      simp only
      split
      · exact .kept
      · next hb =>
        split
        · exact .kept
        · next hrefs =>
          have h0 : (s.entry b n).refs = 0 := by omega
          split
          · exact .loaded b n none hb h0 (by simp)
          · split
            · exact .kept
            · next r hr =>
              have hin : r.inRange = true := (Option.filter_eq_some_iff.1 hr).2
              exact .loaded b n (some r) hb h0 (by simpa using hin)
    · exact .kept

theorem served_decideReadRecipe (d : List Byte) (s : State) : Served s (decideReadRecipe d s).state := by
  unfold decideReadRecipe
  split
  · exact .kept
  · split <;> exact .kept

theorem served_decideSwitchBank (d : List Byte) (s : State) : Served s (decideSwitchBank d s).state := by
  unfold decideSwitchBank
  split
  · exact .kept
  · split
    · exact .kept
    · exact .switched _

theorem served_decideSwitchBankCancel (d : List Byte) (s : State) : Served s (decideSwitchBankCancel d s).state := by
  unfold decideSwitchBankCancel
  split
  · exact .kept
  · split
    · exact .switched _
    · exact .kept

/-- A LANE_COMMAND does what its own rule does, or nothing (R40). -/
theorem served_laneCommand (usesEntry usesIndex : Bool) (d : List Byte) (s : State) (decide : Lane → Answer)
    (h : ∀ l, Served s (decide l).state) : Served s (laneCommand usesEntry usesIndex d s decide).state := by
  unfold laneCommand
  split
  · exact .kept
  · split
    · exact .kept
    · exact h _

/-- An entry that a LANE_COMMAND takes is VALID in the active bank (R41). -/
theorem State.valid_of_activeEntry {s : State} {n : Nat} {e : EntryNo} (h : s.activeEntry n = some e) :
    (s.entry s.active e).valid = true := (Option.filter_eq_some_iff.1 h).2

theorem served_decideLaneRun (d : List Byte) (s : State) : Served s (decideLaneRun d s).state := by
  refine served_laneCommand _ _ d s _ (fun l => ?_)
  unfold runLane
  split
  · next hs =>
    split
    · exact .kept
    · split
      · exact .kept
      · next hm =>
        split
        · exact .kept
        · next e he =>
          simp only [Bool.or_eq_true, Bool.not_eq_true', not_or, Bool.not_eq_false, Option.isNone_iff_eq_none] at hm
          exact .started l e hs hm.1 hm.2 (State.valid_of_activeEntry he)
  · next hs =>
    split
    · exact .resumed l hs
    · split
      · exact .kept
      · next e he => exact .reassigned l e hs (State.valid_of_activeEntry he)
  all_goals exact .kept

theorem served_decideLaneDrain (d : List Byte) (s : State) : Served s (decideLaneDrain d s).state := by
  refine served_laneCommand _ _ d s _ (fun l => ?_)
  unfold drainLane
  split
  · next hs => exact .drained l hs
  all_goals exact .kept

theorem served_decideLanePurge (d : List Byte) (s : State) : Served s (decideLanePurge d s).state := by
  refine served_laneCommand _ _ d s _ (fun l => ?_)
  unfold purgeLane
  split
  · next hs => exact .purged l (.inl hs)
  · next hs => exact .purged l (.inr hs)
  all_goals exact .kept

theorem served_decideLaneClear (d : List Byte) (s : State) : Served s (decideLaneClear d s).state := by
  refine served_laneCommand _ _ d s _ (fun l => ?_)
  unfold clearLane
  simp only
  split
  · next hs =>
    split
    · next h => exact .cleared l hs h.1 h.2.1 h.2.2
    · exact .kept
  all_goals exact .kept

theorem served_decideLaneChangeover (d : List Byte) (s : State) : Served s (decideLaneChangeover d s).state := by
  unfold decideLaneChangeover
  split
  · exact .kept
  · refine served_laneCommand _ _ d s _ (fun l => ?_)
    unfold changeoverLane
    split
    · exact .kept
    · split
      · exact .kept
      · split
        · next hs => exact .scheduled l _ (.inl hs)
        · next hs => exact .scheduled l _ (.inr hs)
        all_goals exact .kept

theorem served_decideReadCounters (d : List Byte) (s : State) : Served s (decideReadCounters d s).state := by
  unfold decideReadCounters
  split
  · exact .kept
  · split
    · exact .kept
    · split <;> exact .kept

theorem served_decideClearCounters (d : List Byte) (s : State) : Served s (decideClearCounters d s).state := by
  unfold decideClearCounters
  split
  · exact .kept
  · split
    · exact .zeroedAll
    · split
      · exact .kept
      · exact .zeroed _

theorem served_decideReadAlarms (d : List Byte) (s : State) : Served s (decideReadAlarms d s).state := by
  unfold decideReadAlarms
  split
  · exact .kept
  · split
    · exact .kept
    · exact .alarmsRead _

theorem served_decideSetAlarmMasks (d : List Byte) (s : State) : Served s (decideSetAlarmMasks d s).state := by
  unfold decideSetAlarmMasks
  simp only
  split
  · exact .kept
  · split
    · exact .kept
    · exact .masked _ _ _

theorem served_decideSetZone (d : List Byte) (s : State) : Served s (decideSetZone d s).state := by
  unfold decideSetZone
  split
  · exact .kept
  · split
    · exact .kept
    · next l _ =>
      split
      · exact .kept
      · next h =>
        have hlimit : natAt d 2 ≤ 255 := Nat.le_of_lt_succ (byteAt d 2).isLt
        have hoffset : -7 ≤ signedOf (byteAt d 1) ∧ signedOf (byteAt d 1) ≤ 7 := by unfold signedOf; split <;> omega
        exact .zoneSet l _ _ hoffset ⟨by omega, hlimit⟩

/-- The zones are read one after another, with the conversions that end before each (R113). -/
theorem foldl_readZone (during : List (List RawCode)) (ls : List Lane) (p : State × List Byte) :
    (ls.foldl (readZone during) p).1 =
      (ls.flatMap (fun l : Lane => during.getD l [])).foldl (fun t raw => t.convert raw (fun _ => false)) p.1 := by
  induction ls generalizing p with
  | nil => rfl
  | cons l ls ih => rw [List.foldl_cons, ih, List.flatMap_cons, List.foldl_append]; rfl

theorem served_decideReadZones (during : List (List RawCode)) (d : List Byte) (s : State) :
    Served s (decideReadZones during d s).state := by
  unfold decideReadZones
  split
  · simp only [foldl_readZone]
    exact .zonesRead _
  · exact .kept

theorem served_decideSetRole (d : List Byte) (s : State) : Served s (decideSetRole d s).state := by
  unfold decideSetRole
  split
  · exact .kept
  · split
    · exact .kept
    · next r hr =>
      refine .roleSet r ?_
      rintro rfl
      unfold roleOf at hr
      split at hr
      · cases hr
      · split at hr <;> cases hr

theorem served_decideRestart (d : List Byte) (s : State) : Served s (decideRestart d s).state := by
  unfold decideRestart
  split
  · exact .restarted
  · exact .kept

/-! ## Commands -/

/-- The frames that leave in place of a service frame: the reply, or the frame with a count increased (R161, R162). -/
inductive Answered (f : Frame) : Frame → Prop where
  | reply (status : Status) (data : List Byte) : Answered f (replyFrame f status data)
  | count (i : Nat) (hi : i = 6 ∨ i = 7) : Answered f (countFrame f i)

/-- What the commands do to the state. -/
inductive Effect (s : State) : State → Prop where
  /-- nothing: the occasion is absent (assumption 5) -/
  | kept : Effect s s
  /-- DEVICE_RESET (R142) -/
  | reset (addr : BitVec 6) (high : Bool) : Effect s { State.reset with
      nodeAddr := addr, role := strapRole addr high, bypdrv := validAddress addr, pending := s.pending }
  /-- RESET_ASSERTED (R142) -/
  | halted : Effect s { s with power := .heldInReset, bypdrv := false }
  /-- SUPPLY_REMOVED (R142) -/
  | removed : Effect s { State.reset with power := .unpowered, bypdrv := false, pending := s.pending }
  /-- FRAME_ARRIVAL (R144) -/
  | arrived (f : Frame) (h : InOperation s) : Effect s (s.arrive f)
  /-- FRAME_DEPARTURE (R144) -/
  | departed (f : Frame) (rest : List Frame) (h : InOperation s) (hp : s.phase = .sending) (hb : s.buffer = f :: rest) :
      Effect s { s with buffer := rest, phase := .waiting, cardViews := viewsAfterDeparture s.cardViews, ringOut := some f }
  /-- FRAME_PROCESSING of a bad frame (R145) -/
  | rejected (f : Frame) (rest : List Frame) (cause : Byte) (h : InOperation s) (hp : s.phase = .waiting) (hb : s.buffer = f :: rest) :
      Effect s ({ s with ring := s.ring.addCrcError, phase := .sending }.latchChip .frameCrc [byteAt f 0, cause])
  /-- FRAME_PROCESSING of any other frame but a cycle frame (R145) -/
  | taken (f : Frame) (rest : List Frame) (p : Phase) (h : InOperation s) (hp : s.phase = .waiting) (hb : s.buffer = f :: rest) :
      Effect s { s with phase := p }
  /-- FRAME_PROCESSING of a good cycle frame (R33, R145) -/
  | handedOn (f : Frame) (rest : List Frame) (h : InOperation s) (hp : s.phase = .waiting) (hb : s.buffer = f :: rest) :
      Effect s (s.handOnCycle f)
  /-- CYCLE_FRAME (R132) -/
  | cycled (f : Frame) (rest : List Frame) (gapOrder : List Lane) (ticks : List Tick) (h : HandsCycle s f rest) :
      Effect s ((processCycle f gapOrder ticks s).state.sendHead (processCycle f gapOrder ticks s).frame)
  /-- PITCH_COUNT_SATURATION (R12) -/
  | saturated (h : InOperation s) : Effect s { s with timer := { s.timer with count := 65535 } }
  /-- CONVERSION_END (R110) -/
  | converted (raw : RawCode) (h : s.power = .running) : Effect s (s.convert raw (fun _ => false))
  /-- ZONE_FAULT_ENTRY_AFTER_STEP (R46) -/
  | faulted (l : Lane) (h : s.power = .running) : Effect s (s.faultAfterStep l)
  /-- a service request (R160 to R162) -/
  | answered (f g : Frame) (u : State) (hf : s.handed = some f) (hg : Answered f g) (hu : Served s u) : Effect s (u.sendHead g)

/-- What a service row does, if every decision of its rule is one of those listed. -/
theorem effect_serve {r : Request} {decide : List Byte → State → Answer} {s t : State} (h : serve r decide s = .next t)
    (hd : ∀ d, Served s (decide d s).state) : Effect s t := by
  unfold serve at h
  cases h
  split
  · exact .kept
  · next f hf =>
    split
    · unfold answerFrame
      split
      · split
        · exact .answered f _ s hf (.count 7 (.inr rfl)) .kept
        · refine .answered f _ _ hf (.count _ ?_) (hd _)
          split <;> simp
      · exact .answered f _ _ hf (.reply _ _) (hd _)
    · exact .kept

theorem effect_frameProcessing {s t : State} (h : execFrameProcessing s = .next t) : Effect s t := by
  unfold execFrameProcessing at h
  cases h
  split
  · next h =>
    have hi : InOperation s := (onRing_eq_true_iff s).1 h.1
    split
    · exact .kept
    · next f rest hb =>
      split
      · exact .rejected f rest _ hi h.2 hb
      · exact .taken f rest _ hi h.2 hb
      · exact .handedOn f rest hi h.2 hb
      · exact .taken f rest _ hi h.2 hb
  · exact .kept

theorem effect_cycleFrame {gapOrder : List Lane} {ticks : List Tick} {s t : State} (h : execCycleFrame gapOrder ticks s = .next t) :
    Effect s t := by
  unfold execCycleFrame at h
  cases h
  split
  · next h =>
    split
    · exact .kept
    · next f rest hb => exact .cycled f rest gapOrder ticks ⟨(onRing_eq_true_iff s).1 h.1, h.2, hb⟩
  · exact .kept

theorem effect_frameDeparture {s t : State} (h : execFrameDeparture s = .next t) : Effect s t := by
  unfold execFrameDeparture at h
  cases h
  split
  · next h =>
    split
    · exact .kept
    · next f rest hb => exact .departed f rest ((onRing_eq_true_iff s).1 h.1) h.2 hb
  · exact .kept

/-- A command under a condition does its effect or nothing. -/
theorem effect_ite {s t : State} {p : Prop} [Decidable p] (h : p → Effect s t) : Effect s (if p then t else s) := by
  split
  · next hp => exact h hp
  · exact .kept

/-- Every command has one of the effects listed. -/
theorem effect_exec {c : Instr} {s t : State} (h : exec c s = .next t) : Effect s t := by
  cases c with
  | deviceReset addr high => cases h; exact .reset addr high
  | frameArrival f => cases h; exact effect_ite (fun hr => .arrived f ((onRing_eq_true_iff s).1 hr))
  | frameDeparture => exact effect_frameDeparture h
  | frameProcessing => exact effect_frameProcessing h
  | cycleFrame gapOrder ticks => exact effect_cycleFrame h
  | pitchCountSaturation => cases h; exact effect_ite (fun hr => .saturated ((onRing_eq_true_iff s).1 hr))
  | conversionEnd raw => cases h; exact effect_ite (fun hp => .converted raw hp)
  | zoneFaultEntryAfterStep l => cases h; exact effect_ite (fun hp => .faulted l hp)
  | identify => exact effect_serve h (fun d => served_decideIdentify d s)
  | readState => exact effect_serve h (fun d => served_decideReadState d s)
  | mapSlot => exact effect_serve h (fun d => served_decideMapSlot d s)
  | readSlotMap => exact effect_serve h (fun d => served_decideReadSlotMap d s)
  | setStations => exact effect_serve h (fun d => served_decideSetStations d s)
  | readStations => exact effect_serve h (fun d => served_decideReadStations d s)
  | loadRecipe => exact effect_serve h (fun d => served_decideLoadRecipe d s)
  | readRecipe => exact effect_serve h (fun d => served_decideReadRecipe d s)
  | switchBank => exact effect_serve h (fun d => served_decideSwitchBank d s)
  | switchBankCancel => exact effect_serve h (fun d => served_decideSwitchBankCancel d s)
  | laneRun => exact effect_serve h (fun d => served_decideLaneRun d s)
  | laneDrain => exact effect_serve h (fun d => served_decideLaneDrain d s)
  | lanePurge => exact effect_serve h (fun d => served_decideLanePurge d s)
  | laneClear => exact effect_serve h (fun d => served_decideLaneClear d s)
  | laneChangeover => exact effect_serve h (fun d => served_decideLaneChangeover d s)
  | forceOn => exact effect_serve h (fun d => served_laneCommand _ _ d s _ (fun l => .forced l true))
  | forceOff => exact effect_serve h (fun d => served_laneCommand _ _ d s _ (fun l => .forced l false))
  | autoPurgeOn => exact effect_serve h (fun d => served_laneCommand _ _ d s _ (fun l => .autoPurged l true))
  | autoPurgeOff => exact effect_serve h (fun d => served_laneCommand _ _ d s _ (fun l => .autoPurged l false))
  | readCard => exact effect_serve h (fun d => by rw [decideReadCard_state]; exact .kept)
  | readCounters => exact effect_serve h (fun d => served_decideReadCounters d s)
  | clearCounters => exact effect_serve h (fun d => served_decideClearCounters d s)
  | readAlarms => exact effect_serve h (fun d => served_decideReadAlarms d s)
  | setAlarmMasks => exact effect_serve h (fun d => served_decideSetAlarmMasks d s)
  | setZone => exact effect_serve h (fun d => served_decideSetZone d s)
  | readZones during => exact effect_serve h (fun d => served_decideReadZones during d s)
  | setRole => exact effect_serve h (fun d => served_decideSetRole d s)
  | restart => exact effect_serve h (fun d => served_decideRestart d s)
  | unknownRequest => exact effect_serve h (fun _ => .kept)
  | resetAsserted =>
    cases h
    show Effect s (if s.power = .unpowered then s else _)
    split
    · exact .kept
    · exact .halted
  | supplyRemoved => cases h; exact .removed

/-- What every effect and every tick leads to from a state with `P`, whatever its queue, a step leads to. -/
theorem step_leads_to (P Q : State → Prop) (hqueue : ∀ s q, P s → P { s with pending := q }) (htick : ∀ s, P s → Q s.tick)
    (heffect : ∀ s t, P s → Effect s t → Q t) {s t : State} (hs : P s) (h : step s = .next t) : Q t := by
  unfold step at h
  split at h
  · cases h; exact htick s hs
  · exact heffect _ t (hqueue s _ hs) (effect_exec h)

end Sys2Proof.Machine
end

section
/-! PROOFS. The lane lists, IDLE lanes, blind windows, changeovers and both maps stay sound (R2, R17, R22, R39, R41, R45, R49, R50, R120,
R147). -/

namespace Sys2Proof.Machine

open Sys2Proof.Safety

/-! ## The laws as laws of the tracks -/

/-- The laws of the lists, the IDLE lanes and the blind windows, with a condition on the lanes that are not IDLE, are laws of each lane's
track. -/
theorem tracksSound_iff (ready : Lane → Prop) (s : State) :
    TracksSound ready s ↔ ListsSound s ∧ IdleSound s ∧ BlindSound s ∧ ∀ l, (s.lane l).state ≠ .idle → ready l := by
  constructor
  · intro h
    refine ⟨⟨fun l => (h l).web, fun c hc => (h c.lane).gate c ?_⟩, fun l => ⟨(h l).idle, (h l).changeover⟩, fun l => (h l).blind,
      fun l => (h l).ready⟩
    simpa [State.gateOf, ofLane] using hc
  · rintro ⟨⟨hweb, hgate⟩, hidle, hblind, hready⟩ l
    exact ⟨hweb l, fun c hc => hgate c (List.mem_of_mem_filter hc), (hidle l).1, (hidle l).2, hblind l, hready l⟩

/-- What a lane needs to leave IDLE: a VALID Station Map, and its eleven uses mapped (R41). -/
def State.canRun (s : State) (l : Lane) : Prop := s.stations ≠ none ∧ s.laneMapped l = true

theorem canRun_congr {s t : State} (hst : t.stations = s.stations) (hm : t.slotMap = s.slotMap) : t.canRun = s.canRun := by
  funext l
  simp only [State.canRun, State.laneMapped, State.slotOf, hst, hm]

/-- Both maps and every track are sound. -/
structure LanesSound (s : State) : Prop where
  stations : ∀ m ∈ s.stations, m.inRange = true
  slotMap : slotMapDistinct s.slotMap = true
  tracks : TracksSound s.canRun s

theorem allIdle_iff (s : State) : s.allIdle = true ↔ ∀ l, (s.lane l).state = .idle := by simp [State.allIdle]

theorem lanesSound_iff (s : State) :
    LanesSound s ↔ ListsSound s ∧ IdleSound s ∧ BlindSound s ∧ StationsSound s ∧ SlotMapSound s := by
  have hidle : (s.stations = none → s.allIdle = true) ↔ ∀ l, (s.lane l).state ≠ .idle → s.stations ≠ none := by
    rw [allIdle_iff]
    exact ⟨fun h l hl hn => hl (h hn l), fun h hn l => by_contra fun hl => h l hl hn⟩
  constructor
  · rintro ⟨hst, hmap, htr⟩
    obtain ⟨hlists, hid, hb, hready⟩ := (tracksSound_iff _ s).1 htr
    exact ⟨hlists, hid, hb, ⟨hst, hidle.2 (fun l hl => (hready l hl).1)⟩, hmap, fun l hl => (hready l hl).2⟩
  · rintro ⟨hlists, hid, hb, ⟨hst, hi⟩, hmap, hm⟩
    exact ⟨hst, hmap, (tracksSound_iff _ s).2 ⟨hlists, hid, hb, fun l hl => ⟨hidle.1 hi l hl, hm l hl⟩⟩⟩

/-- With the maps untouched, sound tracks are all there is to keep. -/
theorem LanesSound.of_tracks {s t : State} (hs : LanesSound s) (hst : t.stations = s.stations) (hm : t.slotMap = s.slotMap)
    (ht : TracksSound s.canRun t) : LanesSound t :=
  ⟨by rw [hst]; exact hs.stations, by rw [hm]; exact hs.slotMap, by rw [canRun_congr hst hm]; exact ht⟩

theorem LanesSound.shrinks {s t : State} (hs : LanesSound s) (h : s.Shrinks t) : LanesSound t :=
  hs.of_tracks (by simpa using congrArg State.stations h.1) (by simpa using congrArg State.slotMap h.1) (hs.tracks.shrinks h)

/-! ## Lanes that change their state -/

/-- A lane in IDLE is sound whatever the others need. -/
theorem Track.Sound.of_idle {l : Lane} {p q : Prop} {a : Track} (ha : a.Sound l p) (hi : a.state = .idle) : a.Sound l q :=
  ⟨ha.web, ha.gate, ha.idle, ha.changeover, ha.blind, fun h => absurd hi h⟩

/-- A lane that is not in FAULT, and may run, changes to RUN or DRAIN (R41, R42, R44). -/
theorem Track.Sound.to_working {l : Lane} {p : Prop} {a : Track} (ha : a.Sound l p) (hf : a.state ≠ .fault) (hp : p) {st : LaneState}
    (hst : st = .run ∨ st = .drain) : Track.Sound l p { a with state := st } :=
  ⟨ha.web, ha.gate, fun h => by (rcases hst with rfl | rfl <;> cases h), fun h => absurd hst h,
    fun h => absurd (ha.blind h).1 hf, fun _ => hp⟩

/-- A lane in RUN or DRAIN takes a changeover (R50). -/
theorem Track.Sound.scheduled {l : Lane} {p : Prop} {a : Track} (ha : a.Sound l p) (hw : a.state = .run ∨ a.state = .drain)
    (ch : Changeover) : Track.Sound l p { a with changeover := some ch } :=
  ⟨ha.web, ha.gate, ha.idle, fun h => absurd hw h, ha.blind, ha.ready⟩

/-- An empty lane in IDLE (R57). -/
theorem Track.sound_reset (l : Lane) (p : Prop) : Track.Sound l p ⟨.idle, none, 0, ⟨0, 0, 0, 0⟩, [], []⟩ :=
  ⟨by simp, by simp, fun _ => ⟨rfl, rfl⟩, fun _ => rfl, by simp, fun h => absurd rfl h⟩

/-! ## What requests do to the tracks -/

theorem State.track_settleStop (s : State) : s.settleStop.track = s.track := by
  unfold State.settleStop
  split
  · split <;> rfl
  · rfl

theorem State.port_settleStop (s : State) : s.settleStop.port = s.port := by
  unfold State.settleStop
  split
  · split <;> rfl
  · rfl

theorem State.shrinks_clearLatches (s : State) (sc : Scope) : s.Shrinks (s.clearLatches sc) := by
  have hlane : ∀ (t : State) l, t.Shrinks (t.clearLaneLatches l) := fun t l => t.shrinks_updLane_same l _ (by intros; rfl)
  cases sc with
  | lane l => exact hlane s l
  | chip => exact .of_eq rfl rfl
  | all => exact (s.shrinks_eachLane _ (fun l t => hlane t l)).trans (.of_eq rfl rfl)

theorem State.shrinks_maskScope (s : State) (summary stop : Byte) (sc : Scope) : s.Shrinks (s.maskScope summary stop sc) := by
  have hlane : ∀ (t : State) l, t.Shrinks (t.maskLane summary stop l) := fun t l => t.shrinks_updLane_same l _ (by intros; rfl)
  cases sc with
  | lane l => exact hlane s l
  | chip => exact .of_eq rfl rfl
  | all => exact s.shrinks_eachLane _ (fun l t => hlane t l)

theorem State.shrinks_settled {s t : State} (h : s.Shrinks t) : s.Shrinks t.settleStop :=
  h.trans (.of_eq t.port_settleStop t.track_settleStop)

theorem State.shrinks_converts (s : State) (raws : List RawCode) :
    s.Shrinks (raws.foldl (fun t raw => t.convert raw (fun _ => false)) s) :=
  s.shrinks_foldl _ _ (fun t raw _ => t.shrinks_convert raw _)

/-- A lane that is cleared keeps no changeover and enters IDLE (R48). -/
theorem State.track_clearLane (s : State) (l : Lane) :
    (s.clearLane l).track = Function.update s.track l { s.track l with state := .idle, changeover := none } := by
  unfold State.clearLane
  rw [State.track_setLane_update]
  congr 1
  exact LaneRec.track_runEndClose _ _ (s.lane l).enterIdle (s.gateOf l)

/-- RESTART leaves every lane empty in IDLE (R36, R57). -/
theorem State.track_restart (s : State) (l : Lane) : s.restart.track l = ⟨.idle, none, 0, ⟨0, 0, 0, 0⟩, [], []⟩ := by
  have hl : s.restart.lane l = (s.lane l).restart := by simp [State.restart, State.lane]
  simp only [State.track, hl]
  rfl

/-- The reset state leaves every lane empty in IDLE (R57). -/
theorem track_reset (l : Lane) : State.reset.track l = ⟨.idle, none, 0, ⟨0, 0, 0, 0⟩, [], []⟩ := by
  have hl : State.reset.lane l = LaneRec.reset := by simp [State.reset, State.lane]
  simp only [State.track, hl]
  rfl

/-- A lane that is not IDLE may run. -/
theorem LanesSound.canRun {s : State} (hs : LanesSound s) {l : Lane} (h : (s.lane l).state ≠ .idle) : s.canRun l := (hs.tracks l).ready h

/-- An update of one lane's state within RUN and DRAIN keeps the laws (R41, R42, R44). -/
theorem LanesSound.updLane_working {s : State} (hs : LanesSound s) {l : Lane} {f : LaneRec → LaneRec} {st : LaneState}
    (hf : ∀ r g, (f r).track g = { r.track g with state := st }) (hst : st = .run ∨ st = .drain)
    (hfault : (s.lane l).state ≠ .fault) (hr : s.canRun l) : LanesSound (s.updLane l f) :=
  hs.of_tracks rfl rfl (hs.tracks.update (s.track_updLane_update l f)
    (by rw [hf]; exact (hs.tracks l).to_working hfault hr hst))

theorem ne_of_working {r : LaneRec} (h : Working r) : r.state ≠ .idle ∧ r.state ≠ .fault := by
  rcases h with h | h <;> simp [h]

/-- Every request keeps the laws. -/
theorem LanesSound.served {s u : State} (hs : LanesSound s) (h : Served s u) : LanesSound u := by
  cases h with
  | kept => exact hs
  | mapped m hidle hm =>
    exact ⟨hs.stations, hm, fun l => (hs.tracks l).of_idle ((allIdle_iff s).1 hidle l)⟩
  | placed m hidle hgate hm =>
    exact ⟨by simpa using hm, hs.slotMap, fun l => (hs.tracks l).of_idle ((allIdle_iff s).1 hidle l)⟩
  | loaded b n r hb hrefs hr =>
    exact hs.of_tracks (s.setEntry_stations b n _) (s.setEntry_slotMap b n _) (hs.tracks.of_eq (s.track_setEntry b n _))
  | switched x => exact hs.of_tracks rfl rfl hs.tracks
  | started l e hidle hm hmap he =>
    have hrun := hs.updLane_working (f := fun r => { r with state := .run, assigned := e }) (by intros; rfl) (.inl rfl)
      (by simp [hidle]) ⟨hm, hmap⟩
    unfold State.startLane
    simp only
    split
    · exact hrun.shrinks (State.shrinks_zoneFaultBegins _ l false)
    · exact hrun
  | reassigned l e hd he => exact hs.updLane_working (by intros; rfl) (.inl rfl) (by simp [hd]) (hs.canRun (by simp [hd]))
  | resumed l hd => exact hs.updLane_working (by intros; rfl) (.inl rfl) (by simp [hd]) (hs.canRun (by simp [hd]))
  | drained l hr => exact hs.updLane_working (by intros; rfl) (.inr rfl) (by simp [hr]) (hs.canRun (by simp [hr]))
  | purged l hw =>
    have hmarked := hs.shrinks (s.shrinks_mapWeb l (Card.addReason .lanePurge) (fun c => by simp))
    have hlane : ((s.mapWeb l (Card.addReason .lanePurge)).lane l).state = (s.lane l).state := by simp [State.mapWeb]
    have hdrain := hmarked.updLane_working (l := l) (f := fun r => { r with state := .drain }) (by intros; rfl) (.inr rfl)
      (by rw [hlane]; exact (ne_of_working hw).2) (hs.canRun (ne_of_working hw).1)
    exact hdrain.of_tracks rfl rfl hdrain.tracks
  | cleared l hf hw hg hb =>
    exact hs.of_tracks rfl rfl (hs.tracks.update (s.track_clearLane l) ((hs.tracks l).enterIdle hw hg hb))
  | scheduled l ch hw =>
    exact hs.of_tracks rfl rfl (hs.tracks.update (s.track_updLane_update l _) ((hs.tracks l).scheduled hw ch))
  | forced l b => exact hs.shrinks (s.shrinks_updLane_same l _ (by intros; rfl))
  | autoPurged l b => exact hs.shrinks (s.shrinks_updLane_same l _ (by intros; rfl))
  | zeroedAll =>
    have hz := hs.shrinks (s.shrinks_eachLane (fun l t => t.updLane l LaneRec.clearCounters)
      (fun l t => t.shrinks_updLane_same l _ (by intros; rfl)))
    exact hz.of_tracks rfl rfl hz.tracks
  | zeroed l => exact hs.shrinks (s.shrinks_updLane_same l _ (by intros; rfl))
  | alarmsRead sc => exact hs.shrinks (State.shrinks_settled (s.shrinks_clearLatches sc))
  | masked summary stop sc => exact hs.shrinks (State.shrinks_settled (s.shrinks_maskScope summary stop sc))
  | zoneSet l offset limit ho hl => exact hs.shrinks (.of_eq rfl rfl)
  | zonesRead raws => exact hs.shrinks (s.shrinks_converts raws)
  | roleSet r hr => exact hs.of_tracks rfl rfl hs.tracks
  | restarted => exact hs.of_tracks rfl rfl (fun l => by rw [s.track_restart]; exact Track.sound_reset l _)

/-! ## What commands do to the tracks -/

theorem State.track_arrive (s : State) (f : Frame) : (s.arrive f).track = s.track := by
  unfold State.arrive
  split
  · rfl
  · split <;> rfl

theorem lanesSound_reset : LanesSound State.reset :=
  ⟨by simp [State.reset], by decide +kernel, fun l => by rw [track_reset]; exact Track.sound_reset l _⟩

theorem LanesSound.cycled {s : State} (hs : LanesSound s) (f : Frame) (gapOrder : List Lane) (ticks : List Tick) :
    LanesSound (processCycle f gapOrder ticks s).state := by
  have hp := port_processCycle f gapOrder ticks s
  exact hs.of_tracks (by simpa using congrArg State.stations hp) (by simpa using congrArg State.slotMap hp)
    (hs.tracks.processCycle f gapOrder ticks (map_e_le s hs.stations))

/-- Every command keeps the laws. -/
theorem LanesSound.effect {s t : State} (hs : LanesSound s) (h : Effect s t) : LanesSound t := by
  cases h with
  | kept => exact hs
  | reset addr high => exact lanesSound_reset.of_tracks rfl rfl lanesSound_reset.tracks
  | halted => exact hs.of_tracks rfl rfl hs.tracks
  | removed => exact lanesSound_reset.of_tracks rfl rfl lanesSound_reset.tracks
  | arrived f h =>
    refine hs.of_tracks ?_ ?_ (hs.tracks.of_eq (s.track_arrive f))
    all_goals unfold State.arrive; split <;> [rfl; split <;> rfl]
  | departed f rest h hp hb => exact hs.of_tracks rfl rfl hs.tracks
  | rejected f rest cause h hp hb => exact hs.of_tracks rfl rfl hs.tracks
  | taken f rest p h hp hb => exact hs.of_tracks rfl rfl hs.tracks
  | handedOn f rest h hp hb =>
    unfold State.handOnCycle
    split <;> exact hs.of_tracks rfl rfl hs.tracks
  | cycled f rest gapOrder ticks h =>
    have hc := hs.cycled f gapOrder ticks
    exact hc.of_tracks (State.sendHead_stations _ _) (State.sendHead_slotMap _ _) (hc.tracks.of_eq (State.track_sendHead _ _))
  | saturated h => exact hs.of_tracks rfl rfl hs.tracks
  | converted raw h => exact hs.shrinks (s.shrinks_convert raw _)
  | faulted l h => exact hs.shrinks (s.shrinks_faultAfterStep l)
  | answered f g u hf hg hu =>
    have hc := hs.served hu
    exact hc.of_tracks (State.sendHead_stations _ _) (State.sendHead_slotMap _ _) (hc.tracks.of_eq (State.track_sendHead _ _))

theorem LanesSound.tick {s : State} (hs : LanesSound s) : LanesSound s.tick := by
  unfold State.tick
  split
  · exact hs.of_tracks rfl rfl hs.tracks
  · exact hs

end Sys2Proof.Machine

namespace Sys2Proof.Proofs

open Sys2Proof.Machine Sys2Proof.Safety

/-- Settles O55: the laws are those of the maps and of each lane's track, and every effect of a command keeps them. -/
theorem stepKeepsLanes : Obligations.StepKeepsLanes := by
  intro s t hs h
  rw [← lanesSound_iff] at hs ⊢
  exact step_leads_to LanesSound LanesSound (fun s q hs => hs.of_tracks rfl rfl hs.tracks) (fun s hs => hs.tick)
    (fun s t hs he => hs.effect he) hs h

end Sys2Proof.Proofs
end

section
/-! PROOFS. The web lists and the gate entries stay within their windows (R3, R4, R25, R26). While the pitch steps run, the window of a lane
depends on the stage it takes next: stage 2 takes off the entries of age `g`, stage 4 the card at position `e`, and stage 5 adds
the card of position 0. -/

namespace Sys2Proof.Machine

open Sys2Proof.Safety

/-! ## Index distances -/

/-- Distances from one index to a second and on to a third add up, short of a whole turn (R9 to R11). -/
theorem toNat_sub_add (x last k : Index) (h : (last - x).toNat + (k - last).toNat < 65536) :
    (k - x).toNat = (last - x).toNat + (k - last).toNat := by
  have hx := x.isLt
  have hl := last.isLt
  have hk := k.isLt
  simp only [BitVec.toNat_sub] at h ⊢
  omega

theorem Card.position_later (c : Card) (last k : Index) (h : c.position last + (k - last).toNat < 65536) :
    c.position k = c.position last + (k - last).toNat := toNat_sub_add c.formed last k h

theorem gateAge_eq {c : Card} {i : Index} (h : c.gateIndex = some i) (k : Index) : gateAge k c = (k - i).toNat := by
  rw [gateAge, h, Option.getD_some]

/-- A class's step distance (R9). -/
theorem toNat_of_classify_next {last k : Index} (h : classify (some last) k = .next) : (k - last).toNat = 1 := by
  unfold classify at h
  simp only at h
  split at h
  · cases h
  · split at h
    · assumption
    · split at h <;> cases h

theorem toNat_of_classify_gap {last k : Index} (h : classify (some last) k = .gap) : 2 ≤ (k - last).toNat ∧ (k - last).toNat ≤ 8 := by
  unfold classify at h
  simp only at h
  split at h
  · cases h
  · split at h
    · cases h
    · split at h
      · omega
      · cases h

/-! ## Fewer cards -/

/-- Cards only leave the lists of a lane, and the others stay where they are. -/
structure Track.Fewer (a b : Track) : Prop where
  web : (b.web.map Card.ident).Sublist (a.web.map Card.ident)
  gate : b.gate.Sublist a.gate

theorem Track.Fewer.refl (a : Track) : a.Fewer a := ⟨.refl _, .refl _⟩

theorem Track.Fewer.trans {a b c : Track} (h : a.Fewer b) (g : b.Fewer c) : a.Fewer c := ⟨g.web.trans h.web, g.gate.trans h.gate⟩

theorem Track.Shrinks.fewer {a b : Track} (h : a.Shrinks b) : a.Fewer b := ⟨h.web, h.gate⟩

theorem Track.Fewer.exists_web {a b : Track} (h : a.Fewer b) {c : Card} (hc : c ∈ b.web) : ∃ d ∈ a.web, d.formed = c.formed := by
  obtain ⟨d, hd, hi⟩ := List.mem_map.1 (h.web.subset (List.mem_map_of_mem hc))
  exact ⟨d, hd, ((Card.ident_eq_iff d c).1 hi).2.1⟩

/-- What holds of the position of every card still does. -/
theorem Track.Fewer.position {a b : Track} (h : a.Fewer b) {k : Index} {p : Nat → Prop} (ha : ∀ c ∈ a.web, p (c.position k)) :
    ∀ c ∈ b.web, p (c.position k) := by
  intro c hc
  obtain ⟨d, hd, hf⟩ := h.exists_web hc
  have hp := ha d hd
  rwa [Card.position, hf] at hp

/-- The order of the cards that stay is the order they had. -/
theorem Track.Fewer.order {a b : Track} (h : a.Fewer b) {k : Index}
    (ha : a.web.Pairwise (fun x y => y.position k < x.position k)) : b.web.Pairwise (fun x y => y.position k < x.position k) := by
  have hmap : ∀ l : List Card, l.Pairwise (fun x y => y.position k < x.position k) ↔
      (l.map Card.ident).Pairwise (fun i j => (k - j.2.1).toNat < (k - i.2.1).toNat) := fun l => by rw [List.pairwise_map]; rfl
  rw [hmap] at ha ⊢
  exact ha.sublist h.web

/-! ## The window of a lane -/

/-- The window of a lane at the frame of index `k`, before stage `n` of its pitch step: cards in order at positions up to `e`, below
`e` once stage 4 is past, above 0 until stage 5 is; gate entries in order of age up to `g`, below `g` once stage 2 is past, above 0 until
stage 4 is. -/
structure Track.Window (k : Index) (e g n : Nat) (a : Track) : Prop where
  order : a.web.Pairwise (fun x y => y.position k < x.position k)
  web : ∀ c ∈ a.web, c.position k ≤ e ∧ (4 < n → c.position k < e) ∧ (n ≤ 5 → 1 ≤ c.position k)
  gateOrder : a.gate.Pairwise (fun x y => gateAge k y < gateAge k x)
  gate : ∀ c ∈ a.gate, gateAge k c ≤ g ∧ (2 < n → gateAge k c < g) ∧ (n ≤ 4 → 1 ≤ gateAge k c)

theorem Track.Window.fewer {k : Index} {e g n : Nat} {a b : Track} (ha : a.Window k e g n) (h : a.Fewer b) : b.Window k e g n :=
  ⟨h.order ha.order, h.position (p := fun i => i ≤ e ∧ (4 < n → i < e) ∧ (n ≤ 5 → 1 ≤ i)) ha.web,
    ha.gateOrder.sublist h.gate, fun c hc => ha.gate c (h.gate.subset hc)⟩

theorem Track.window_nil {a : Track} (hw : a.web = []) (hg : a.gate = []) (k : Index) (e g n : Nat) : a.Window k e g n :=
  ⟨by simp [hw], by simp [hw], by simp [hg], by simp [hg]⟩

/-- But for the stages 2 and 4 the window of the next stage asks for no more. -/
theorem Track.Window.next {k : Index} {e g n : Nat} {a : Track} (ha : a.Window k e g n) (h2 : n ≠ 2) (h4 : n ≠ 4) :
    a.Window k e g (n + 1) :=
  ⟨ha.order, fun c hc => ⟨(ha.web c hc).1, fun h => (ha.web c hc).2.1 (by omega), fun h => (ha.web c hc).2.2 (by omega)⟩,
    ha.gateOrder, fun c hc => ⟨(ha.gate c hc).1, fun h => (ha.gate c hc).2.1 (by omega), fun h => (ha.gate c hc).2.2 (by omega)⟩⟩

/-- After stage 7 the window is that between frames. -/
theorem Track.window_between_iff {k : Index} {e g n : Nat} (hn : 5 < n) (a : Track) : a.Window k e g n ↔
    (a.web.Pairwise (fun x y => y.position k < x.position k) ∧ ∀ c ∈ a.web, c.position k < e) ∧
      a.gate.Pairwise (fun x y => gateAge k y < gateAge k x) ∧ ∀ c ∈ a.gate, gateAge k c < g := by
  constructor
  · intro h
    exact ⟨⟨h.order, fun c hc => (h.web c hc).2.1 (by omega)⟩, h.gateOrder, fun c hc => (h.gate c hc).2.1 (by omega)⟩
  · rintro ⟨⟨ho, hw⟩, hgo, hg⟩
    exact ⟨ho, fun c hc => ⟨(hw c hc).le, fun _ => hw c hc, fun h => absurd h (by omega)⟩, hgo,
      fun c hc => ⟨(hg c hc).le, fun _ => hg c hc, fun h => absurd h (by omega)⟩⟩

/-- Between frames every lane is within its window, and with no last index it has no card (R3, R4, R25, R26). -/
def Windowed (s : State) : Prop :=
  ∀ l, (∀ k ∈ s.lastIndex, (s.track l).Window k s.map.e s.map.g 8) ∧
    (s.lastIndex = none → (s.track l).web = [] ∧ (s.track l).gate = [])

theorem windowed_iff (s : State) : Windowed s ↔ WebSound s ∧ GateSound s := by
  constructor
  · intro h
    refine ⟨fun l => ⟨fun k hk => ?_, fun hn => ((h l).2 hn).1⟩, fun l => ⟨fun k hk => ?_, fun hn => ((h l).2 hn).2⟩⟩
    · exact ((Track.window_between_iff (by omega) _).1 ((h l).1 k hk)).1
    · exact ((Track.window_between_iff (by omega) _).1 ((h l).1 k hk)).2
  · rintro ⟨hw, hg⟩ l
    exact ⟨fun k hk => (Track.window_between_iff (by omega) _).2 ⟨(hw l).1 k hk, (hg l).1 k hk⟩, fun hn => ⟨(hw l).2 hn, (hg l).2 hn⟩⟩

/-! ## The window at each stage -/

/-- What stage 2 leaves of a working lane's gate entries (R123). -/
theorem gateOf_stage2 (k : Index) (l : Lane) (s : State) (h : (s.lane l).state ≠ .idle) :
    (stage2 k l s).gateOf l = (s.gateOf l).filter (fun c => !expiredAt s.map.g k c) := by
  have hfilter : ∀ c ∈ s.gateOf l, (!(decide (c.lane = l) && expiredAt s.map.g k c)) = !expiredAt s.map.g k c := by
    intro c hc
    have hl : c.lane = l := by simpa [State.gateOf, ofLane] using (List.mem_filter.1 hc).2
    simp [hl]
  unfold stage2
  rw [if_neg h]
  simp only
  split
  · next hnone =>
    refine (List.filter_eq_self.2 fun c hc => ?_).symm
    have hexp := List.filter_eq_nil_iff.1 hnone c (List.mem_of_mem_filter hc)
    rw [← hfilter c hc, Bool.eq_false_of_not_eq_true hexp]
    rfl
  · have ht := congrArg Track.gate (s.track_removeGate (fun c => decide (c.lane = l) && expiredAt s.map.g k c) LaneRec.countExpired
      (fun c r g => r.track_countExpired c g) l)
    exact ht.trans (List.filter_congr hfilter)

/-- A gate entry of the age of the gate window is expired (R123). -/
theorem expiredAt_of_age {g : Nat} {k : Index} {c : Card} (hg : c.gateIndex.isSome = true) (h : gateAge k c = g) :
    expiredAt g k c = true := by
  obtain ⟨i, hi⟩ := Option.isSome_iff_exists.1 hg
  rw [gateAge_eq hi] at h
  have h0 : k - (i + BitVec.ofNat 16 g) = 0 := by
    rw [← h, BitVec.ofNat_toNat, BitVec.setWidth_eq]
    ring
  simp [expiredAt, hi, reached, h0]

theorem Track.Window.stage2 {ready : Lane → Prop} {k : Index} {l : Lane} {s : State} (hs : TracksSound ready s) {e : Nat}
    (h : (s.track l).Window k e s.map.g 2) : ((stage2 k l s).track l).Window k e s.map.g 3 := by
  have hf := h.fewer ((shrinks_stage2 k l s).2 l).fewer
  refine ⟨hf.order, fun c hc => ?_, hf.gateOrder, fun c hc => ?_⟩
  · exact ⟨(hf.web c hc).1, fun h => absurd h (by omega), fun _ => (hf.web c hc).2.2 (by omega)⟩
  · have hawake : (s.lane l).state ≠ .idle := fun hi => by
      have hnil := ((shrinks_stage2 k l s).2 l).gate_eq_nil ((hs l).idle hi).2
      rw [hnil] at hc
      exact List.not_mem_nil hc
    have hc' := hc
    rw [State.track_gate, gateOf_stage2 k l s hawake, List.mem_filter] at hc'
    have hne : gateAge k c ≠ s.map.g := fun heq => by
      simp [expiredAt_of_age ((hs l).gate c hc'.1).1 heq] at hc'
    obtain ⟨hle, -, hpos⟩ := hf.gate c hc
    exact ⟨hle, fun _ => by omega, fun _ => hpos (by omega)⟩

/-- The head of the web list is the only card that can stand at the punch. -/
theorem Track.Window.tail_lt {k : Index} {e g n : Nat} {a : Track} (ha : a.Window k e g n) {c : Card} {rest : List Card}
    (hw : a.web = c :: rest) : ∀ d ∈ rest, d.position k < e := by
  have ho := ha.order
  rw [hw, List.pairwise_cons] at ho
  exact fun d hd => lt_of_lt_of_le (ho.1 d hd) (ha.web c (by simp [hw])).1

theorem Track.Window.punched {l : Lane} {ready : Prop} {k : Index} {e g : Nat} {a b : Track} (hs : a.Sound l ready)
    (hg : ready → 0 < g) (ha : a.Window k e g 4) (h : a.Punched k e b) : b.Window k e g 5 := by
  have hgate : ∀ c ∈ a.gate, gateAge k c ≤ g ∧ (2 < 5 → gateAge k c < g) ∧ (5 ≤ 4 → 1 ≤ gateAge k c) := fun c hc =>
    ⟨(ha.gate c hc).1, fun _ => (ha.gate c hc).2.1 (by omega), fun h => absurd h (by omega)⟩
  have hweb : ∀ c ∈ a.web, c.position k < e → c.position k ≤ e ∧ (4 < 5 → c.position k < e) ∧ (5 ≤ 5 → 1 ≤ c.position k) :=
    fun c hc hlt => ⟨hlt.le, fun _ => hlt, fun _ => (ha.web c hc).2.2 (by omega)⟩
  cases h with
  | blind h =>
    have hnil := (hs.blind h).2.1
    exact ⟨ha.order, by simp [hnil], ha.gateOrder, hgate⟩
  | blank h hw =>
    refine ⟨ha.order, fun c hc => hweb c hc ?_, ha.gateOrder, hgate⟩
    cases hl : a.web with
    | nil => simp [hl] at hc
    | cons d rest =>
      rw [hl, List.mem_cons] at hc
      rcases hc with rfl | hc
      · exact lt_of_le_of_ne (ha.web c (by simp [hl])).1 (hw c rest hl)
      · exact ha.tail_lt hl c hc
  | passed c rest hw hp =>
    have ho := ha.order
    rw [hw, List.pairwise_cons] at ho
    exact ⟨ho.2, fun d hd => hweb d (by simp [hw, hd]) (ha.tail_lt hw d hd), ha.gateOrder, hgate⟩
  | rejected c d rest hw hp hl hd hr =>
    have ho := ha.order
    rw [hw, List.pairwise_cons] at ho
    have hawake : a.state ≠ .idle := fun hi => by simp [(hs.idle hi).1] at hw
    have hage : gateAge k d = 0 := by rw [gateAge_eq hd]; simp
    have hpos : 0 < g := hg (hs.ready hawake)
    refine ⟨ho.2, fun d hd => hweb d (by simp [hw, hd]) (ha.tail_lt hw d hd), ?_, fun x hx => ?_⟩
    · refine List.pairwise_append.2 ⟨ha.gateOrder, List.pairwise_singleton _ _, fun x hx y hy => ?_⟩
      obtain rfl : y = d := by simpa using hy
      have := (ha.gate x hx).2.2 (by omega)
      omega
    · rcases List.mem_append.1 hx with hx | hx
      · exact hgate x hx
      · obtain rfl : x = d := by simpa using hx
        exact ⟨by omega, fun _ => by omega, fun h => absurd h (by omega)⟩

theorem Track.Window.created {k : Index} {e g : Nat} {a : Track} (ha : a.Window k e g 5) (he : 0 < e) {c : Card} (hf : c.formed = k) :
    Track.Window k e g 6 { a with web := a.web ++ [c] } := by
  have h0 : c.position k = 0 := by simp [Card.position, hf]
  have hn := ha.next (by omega) (by omega)
  refine ⟨?_, fun x hx => ?_, hn.gateOrder, hn.gate⟩
  · refine List.pairwise_append.2 ⟨ha.order, List.pairwise_singleton _ _, fun x hx y hy => ?_⟩
    obtain rfl : y = c := by simpa using hy
    have := (ha.web x hx).2.2 (by omega)
    omega
  · rcases List.mem_append.1 hx with hx | hx
    · exact hn.web x hx
    · obtain rfl : x = c := by simpa using hx
      exact ⟨by omega, fun _ => by omega, fun h => absurd h (by omega)⟩

/-! ## The pitch steps -/

/-- What holds while the pitch steps of the frame `k` run: the Station Map stands, the tracks are sound, and every lane is within the window
of the stage it takes next. -/
structure Stepping (ready : Lane → Prop) (k : Index) (m : StationMap) (p : Steps) : Prop where
  map : p.state.map = m
  tracks : TracksSound ready p.state
  windows : ∀ l, (p.state.track l).Window k m.e m.g p.next[l]

/-- A stage takes its own lane to the window of the next stage and leaves the others in theirs. -/
theorem Track.Window.runStage {ready : Lane → Prop} {s : State} (hs : TracksSound ready s)
    (hm : ∀ l, ready l → 0 < s.map.e ∧ 0 < s.map.g) (x : StepCtx) (n : Nat) (l : Lane)
    (hl : (s.track l).Window x.index s.map.e s.map.g n) :
    ((runStage x n l s).track l).Window x.index s.map.e s.map.g (n + 1) ∧
      ∀ m, m ≠ l → ∀ i, (s.track m).Window x.index s.map.e s.map.g i → ((runStage x n l s).track m).Window x.index s.map.e s.map.g i := by
  have shrinks : ∀ t : State, s.Shrinks t → n ≠ 2 → n ≠ 4 →
      (t.track l).Window x.index s.map.e s.map.g (n + 1) ∧
        ∀ m, m ≠ l → ∀ i, (s.track m).Window x.index s.map.e s.map.g i → (t.track m).Window x.index s.map.e s.map.g i :=
    fun t ht h2 h4 => ⟨(hl.fewer (ht.2 l).fewer).next h2 h4, fun m _ i hi => hi.fewer (ht.2 m).fewer⟩
  have others : ∀ (t : State) b, t.track = Function.update s.track l b → b.Window x.index s.map.e s.map.g (n + 1) →
      (t.track l).Window x.index s.map.e s.map.g (n + 1) ∧
        ∀ m, m ≠ l → ∀ i, (s.track m).Window x.index s.map.e s.map.g i → (t.track m).Window x.index s.map.e s.map.g i :=
    fun t b ht hb => ⟨by rw [ht]; simpa using hb, fun m hne i hi => by rw [ht]; simpa [hne] using hi⟩
  unfold Machine.runStage
  split
  · exact shrinks _ (shrinks_stage1 _ _ _ l s) (by omega) (by omega)
  · exact ⟨Track.Window.stage2 hs hl, fun m _ i hi => hi.fewer ((shrinks_stage2 _ l s).2 m).fewer⟩
  · exact shrinks _ (shrinks_stage3 _ l s) (by omega) (by omega)
  · obtain ⟨-, b, hb, ht⟩ := stage4_cases x.index l s (fun c hc => ((hs l).web c hc).1)
    exact others _ b ht (Track.Window.punched (hs l) (fun hr => (hm l hr).2) hl hb)
  · obtain ⟨-, ht | ⟨hr, c, -, hf, -, ht⟩⟩ := stage5_cases x.index l s
    · exact others _ (s.track l) (by simp [ht]) (hl.next (by omega) (by omega))
    · exact others _ _ ht (hl.created (hm l ((hs l).ready (by simp [hr]))).1 hf)
  · exact shrinks _ (shrinks_stage6 _ l s) (by omega) (by omega)
  · have hfault := State.shrinks_faultAfterStep (stage7 l s) l
    obtain ⟨-, ht | ⟨-, -, -, ht⟩⟩ := stage7_cases l s
    · refine shrinks _ ⟨hfault.1.trans (stage7_cases l s).1, fun m => ?_⟩ (by omega) (by omega)
      have := hfault.2 m
      rwa [ht] at this
    · have hidle : Track.Window x.index s.map.e s.map.g 8 { s.track l with state := .idle, changeover := none } :=
        (hl.next (by omega) (by omega)).fewer ⟨.refl _, .refl _⟩
      obtain ⟨hown, hothers⟩ := others (stage7 l s) _ ht hidle
      exact ⟨hown.fewer (hfault.2 l).fewer, fun m hne i hi => (hothers m hne i hi).fewer (hfault.2 m).fewer⟩
  · next h1 h2 h3 h4 h5 h6 h7 => exact ⟨hl.next h2 h4, fun m _ i hi => hi⟩

/-- The stage a lane takes next, after one lane took its next. -/
theorem Steps.next_advance (x : StepCtx) (l m : Lane) (p : Steps) :
    (p.advance x l).next[m] = if l = m ∧ p.next[m] ≤ 7 then p.next[m] + 1 else p.next[m] := by
  by_cases h : p.next[l] ≤ 7
  · rw [Steps.advance_of_le x l p h]
    by_cases hm : l = m
    · subst hm
      rw [if_pos ⟨rfl, h⟩]
      exact Vector.getElem_set_self l.isLt
    · rw [if_neg (fun hc => hm hc.1)]
      exact Vector.getElem_set_ne l.isLt m.isLt (fun e => hm (Fin.ext e))
  · rw [Steps.advance_of_lt x l p (by omega), if_neg]
    rintro ⟨rfl, hle⟩
    exact h hle

theorem Steps.le_next_advance (x : StepCtx) (l m : Lane) (p : Steps) : p.next[m] ≤ (p.advance x l).next[m] := by
  rw [Steps.next_advance]
  split <;> omega

theorem Stepping.advance {ready : Lane → Prop} {m : StationMap} {x : StepCtx} {p : Steps} (h : Stepping ready x.index m p)
    (hm : ∀ l, ready l → 0 < m.e ∧ 0 < m.g) (l : Lane) : Stepping ready x.index m (p.advance x l) := by
  obtain ⟨rfl, ht, hw⟩ := h
  have hstep := Track.Window.runStage ht hm x p.next[l] l (hw l)
  refine ⟨?_, ?_, fun i => ?_⟩
  · unfold Steps.advance
    split
    · exact map_eq_of_port (port_runStage x _ l p.state)
    · rfl
  · unfold Steps.advance
    split
    · exact ht.runStage x _ l
    · exact ht
  · rw [Steps.next_advance]
    by_cases h7 : p.next[l] ≤ 7
    · rw [Steps.advance_of_le x l p h7]
      by_cases hi : l = i
      · subst hi; rw [if_pos ⟨rfl, h7⟩]; exact hstep.1
      · rw [if_neg (fun hc => hi hc.1)]; exact hstep.2 i (Ne.symm hi) _ (hw i)
    · rw [Steps.advance_of_lt x l p (by omega)]
      rw [if_neg]
      · exact hw i
      · rintro ⟨rfl, hle⟩
        exact h7 hle

theorem Stepping.tick {ready : Lane → Prop} {m : StationMap} {x : StepCtx} {p : Steps} (h : Stepping ready x.index m p)
    (hm : ∀ l, ready l → 0 < m.e ∧ 0 < m.g) (t : Tick) : Stepping ready x.index m (p.tick x t) := by
  cases t with
  | stage l => exact h.advance hm l
  | conversion raw =>
    have hc := p.state.shrinks_convert raw (p.inProgress x)
    exact ⟨(map_eq_of_port hc.1).trans h.map, h.tracks.shrinks hc, fun l => (h.windows l).fewer (hc.2 l).fewer⟩

theorem Stepping.finish {ready : Lane → Prop} {m : StationMap} {x : StepCtx} {p : Steps} (h : Stepping ready x.index m p)
    (hm : ∀ l, ready l → 0 < m.e ∧ 0 < m.g) (l : Lane) : Stepping ready x.index m (p.finish x l) := by
  unfold Steps.finish
  generalize 7 = n
  induction n with
  | zero => exact h
  | succ n ih => rw [Function.iterate_succ_apply']; exact ih.advance hm l

/-- Seven stages end a lane's step, and none is taken back. -/
theorem Steps.next_iterate (x : StepCtx) (l m : Lane) (n : Nat) (p : Steps) :
    p.next[m] ≤ ((Steps.advance x l)^[n] p).next[m] ∧ min 8 (p.next[l] + n) ≤ ((Steps.advance x l)^[n] p).next[l] := by
  induction n with
  | zero => simp
  | succ n ih =>
    rw [Function.iterate_succ_apply']
    refine ⟨ih.1.trans (Steps.le_next_advance x l m _), ?_⟩
    rw [Steps.next_advance]
    simp only [true_and]
    split <;> omega

/-- A lane's step that is run to its end leaves it no stage. -/
theorem Steps.next_finish (x : StepCtx) (l m : Lane) (p : Steps) :
    p.next[m] ≤ (p.finish x l).next[m] ∧ (1 ≤ p.next[l] → 8 ≤ (p.finish x l).next[l]) := by
  have h := Steps.next_iterate x l m 7 p
  unfold Steps.finish
  exact ⟨h.1, fun hl => le_trans (by omega) h.2⟩

/-- After every lane's step has been run to its end no stage is left. -/
theorem Steps.next_finish_all (x : StepCtx) (ls : List Lane) (p : Steps) (hp : ∀ l : Lane, 1 ≤ p.next[l]) (m : Lane) :
    p.next[m] ≤ (ls.foldl (fun p l => p.finish x l) p).next[m] ∧
      (m ∈ ls → 8 ≤ (ls.foldl (fun p l => p.finish x l) p).next[m]) := by
  induction ls generalizing p with
  | nil => simp
  | cons l ls ih =>
    rw [List.foldl_cons]
    obtain ⟨hle, hmem⟩ := ih (p.finish x l) (fun i => (hp i).trans (Steps.next_finish x l i p).1)
    refine ⟨(Steps.next_finish x l m p).1.trans hle, fun h => ?_⟩
    rcases List.mem_cons.1 h with h | h
    · subst h
      exact ((Steps.next_finish x m m p).2 (hp m)).trans hle
    · exact hmem h

/-- A stage or a conversion takes no stage back. -/
theorem Steps.next_tick (x : StepCtx) (p : Steps) (t : Tick) (m : Lane) : p.next[m] ≤ (p.tick x t).next[m] := by
  cases t with
  | stage l => exact Steps.le_next_advance x l m p
  | conversion raw => exact le_rfl

/-- The pitch steps of a frame take every lane from the window of their first stage to that between frames. -/
theorem windows_runPitchSteps {ready : Lane → Prop} {m : StationMap} (x : StepCtx) (ticks : List Tick) (s : State)
    (hx : 1 ≤ x.firstStage) (hmap : s.map = m) (hs : TracksSound ready s) (hm : ∀ l, ready l → 0 < m.e ∧ 0 < m.g)
    (hw : ∀ l, (s.track l).Window x.index m.e m.g x.firstStage) (l : Lane) :
    ((runPitchSteps x ticks s).track l).Window x.index m.e m.g 8 := by
  have hstart : Stepping ready x.index m (Steps.start x s) ∧ ∀ i : Lane, 1 ≤ (Steps.start x s).next[i] :=
    ⟨⟨hmap, hs, fun i => by simpa [Steps.start] using hw i⟩, fun i => by simpa [Steps.start] using hx⟩
  have hticks : Stepping ready x.index m (ticks.foldl (Steps.tick x) (Steps.start x s)) ∧
      ∀ i : Lane, 1 ≤ (ticks.foldl (Steps.tick x) (Steps.start x s)).next[i] :=
    foldl_keeps (fun p => Stepping ready x.index m p ∧ ∀ i : Lane, 1 ≤ p.next[i]) _ _ _ hstart
      (fun p t _ hp => ⟨hp.1.tick hm t, fun i => (hp.2 i).trans (p.next_tick x t i)⟩)
  have hend := foldl_keeps (Stepping ready x.index m) (fun p l => p.finish x l) (List.finRange 6) _ hticks.1
    (fun p l _ hp => hp.finish hm l)
  have h8 := (Steps.next_finish_all x (List.finRange 6) _ hticks.2 l).2 (List.mem_finRange l)
  exact (Track.window_between_iff (by omega) _).2 ((Track.window_between_iff (by omega) _).1 (hend.windows l))

end Sys2Proof.Machine
end

section
/-! PROOFS. The window in which each class of frame begins its pitch steps (R132 to R140), and the windows between frames after every
step (R3, R4, R25, R26). -/

namespace Sys2Proof.Machine

open Sys2Proof.Safety

/-! ## The gap handling -/

/-- A track while the gap handling of the frame `k` runs, after `n` of its lane's parts: the cards stand in order above position 0; voiding
has taken the gate entries, and retirement the cards beyond position `e` (R135, R136). -/
structure Track.Gapped (k : Index) (e n : Nat) (a : Track) : Prop where
  order : a.web.Pairwise (fun x y => y.position k < x.position k)
  formed : ∀ c ∈ a.web, 1 ≤ c.position k ∧ (2 ≤ n → c.position k ≤ e)
  voided : 1 ≤ n → a.gate = []

theorem Track.Gapped.shrinks {k : Index} {e n : Nat} {a b : Track} (ha : a.Gapped k e n) (h : a.Shrinks b) : b.Gapped k e n :=
  ⟨h.fewer.order ha.order, h.fewer.position (p := fun i => 1 ≤ i ∧ (2 ≤ n → i ≤ e)) ha.formed,
    fun hn => h.gate_eq_nil (ha.voided hn)⟩

/-- A lane whose three parts are done begins stage 3 in its window (R54). -/
theorem Track.Gapped.window {k : Index} {e n : Nat} {a : Track} (ha : a.Gapped k e n) (hn : 2 ≤ n) (g : Nat) : a.Window k e g 3 := by
  refine ⟨ha.order, fun c hc => ⟨(ha.formed c hc).2 hn, fun h => absurd h (by omega), fun _ => (ha.formed c hc).1⟩, ?_, ?_⟩
  all_goals simp [ha.voided (by omega)]

/-- A card above position 0 is retired exactly when it stands beyond `e` (R136). -/
theorem retiredAt_iff {e : Nat} {k : Index} {c : Card} (h : 1 ≤ c.position k) : retiredAt e k c = true ↔ e < c.position k := by
  have h1 : (k - 1 - c.formed).toNat = c.position k - 1 := by
    unfold Card.position at h ⊢
    have hk := k.isLt
    have hf := c.formed.isLt
    simp only [BitVec.toNat_sub, show (1 : Index).toNat = 1 from rfl] at h ⊢
    omega
  simp only [retiredAt, h1, decide_eq_true_eq]
  omega

/-- After the cards at the head for which `p` holds have gone, it holds for none, where it holds for every card before one. -/
theorem not_of_mem_dropWhile {α : Type} {p : α → Bool} {l : List α} (h : l.Pairwise (fun x y => p y = true → p x = true)) :
    ∀ c ∈ l.dropWhile p, p c = false := by
  induction l with
  | nil => simp
  | cons x l ih =>
    rw [List.pairwise_cons] at h
    rw [List.dropWhile_cons]
    split
    · exact ih h.2
    · next hx =>
      intro c hc
      rcases List.mem_cons.1 hc with rfl | hc
      · simpa using hx
      · exact Bool.eq_false_of_not_eq_true (fun hp => hx (h.1 c hc hp))

theorem Track.Gapped.retired {k : Index} {e : Nat} {a : Track} (ha : a.Gapped k e 1) :
    Track.Gapped k e 2 { a with web := a.web.dropWhile (retiredAt e k) } := by
  have hsub : (a.web.dropWhile (retiredAt e k)).Sublist a.web := List.dropWhile_sublist _
  have hmono : a.web.Pairwise (fun x y => retiredAt e k y = true → retiredAt e k x = true) := by
    refine ha.order.imp_of_mem fun {x y} hx hy hlt hp => ?_
    rw [retiredAt_iff (ha.formed x hx).1]
    exact ((retiredAt_iff (ha.formed y hy).1).1 hp).trans hlt
  refine ⟨ha.order.sublist hsub, fun c hc => ⟨(ha.formed c (hsub.subset hc)).1, fun _ => ?_⟩, fun _ => ha.voided le_rfl⟩
  have hnot := not_of_mem_dropWhile hmono c hc
  have hiff := retiredAt_iff (e := e) (ha.formed c (hsub.subset hc)).1
  rw [hnot] at hiff
  exact Nat.le_of_not_lt (fun hlt => by simpa using hiff.2 hlt)

/-- A lane's next part takes it on, and leaves the other lanes where they are. -/
theorem gapped_gapPart (last k : Index) (s : State) (n : Nat) (l : Lane) (h : (s.track l).Gapped k s.map.e n) :
    ((gapPart last k n l s).track l).Gapped k s.map.e (n + 1) := by
  match n, h with
  | 0, h =>
    have hs := h.shrinks ((s.shrinks_voidGate l).2 l)
    exact ⟨hs.order, fun c hc => ⟨(hs.formed c hc).1, fun hn => absurd hn (by omega)⟩, fun _ => s.gateOf_voidGate l⟩
  | 1, h =>
    show ((s.retireWeb k l).track l).Gapped k s.map.e 2
    rw [State.track_retireWeb, if_pos rfl]
    exact h.retired
  | 2, h =>
    have hs := h.shrinks ((s.shrinks_mapWeb l (fun c => c.addReasonIf (stoodAtStation s.map last k c) .indexGap) (fun c => by simp)).2 l)
    exact ⟨hs.order, fun c hc => ⟨(hs.formed c hc).1, fun _ => (hs.formed c hc).2 le_rfl⟩, fun _ => hs.voided (by omega)⟩
  | n + 3, h =>
    exact ⟨h.order, fun c hc => ⟨(h.formed c hc).1, fun _ => (h.formed c hc).2 (by omega)⟩, fun _ => h.voided (by omega)⟩

/-- The parts a lane has taken, after one lane took its next. -/
theorem next_gapAdvance (last k : Index) (l m : Lane) (p : Steps) :
    (gapAdvance last k p l).next[m] = if l = m ∧ p.next[m] ≤ 2 then p.next[m] + 1 else p.next[m] := by
  unfold gapAdvance
  by_cases h : p.next[l] ≤ 2
  · rw [if_pos h]
    by_cases hm : l = m
    · subst hm
      rw [if_pos ⟨rfl, h⟩]
      exact Vector.getElem_set_self l.isLt
    · rw [if_neg (fun hc => hm hc.1)]
      exact Vector.getElem_set_ne l.isLt m.isLt (fun e => hm (Fin.ext e))
  · rw [if_neg h, if_neg]
    rintro ⟨rfl, hle⟩
    exact h hle

/-- A lane named three times has taken its three parts. -/
theorem next_foldl_gapAdvance (last k : Index) (ls : List Lane) (p : Steps) (m : Lane) :
    min 3 (p.next[m] + ls.count m) ≤ (ls.foldl (gapAdvance last k) p).next[m] := by
  induction ls generalizing p with
  | nil => simp
  | cons l ls ih =>
    rw [List.foldl_cons]
    refine le_trans ?_ (ih _)
    rw [next_gapAdvance, List.count_cons]
    by_cases hl : l = m
    · subst hl
      simp only [true_and, beq_self_eq_true, if_true]
      split <;> omega
    · simp [hl]

/-- What holds while the gap handling runs: the Station Map stands, and every lane is as far as the parts it has taken. -/
structure Gapping (k : Index) (m : StationMap) (p : Steps) : Prop where
  map : p.state.map = m
  tracks : ∀ l, (p.state.track l).Gapped k m.e p.next[l]

theorem Gapping.advance {k : Index} {m : StationMap} {p : Steps} (h : Gapping k m p) (last : Index) (l : Lane) :
    Gapping k m (gapAdvance last k p l) := by
  obtain ⟨rfl, ht⟩ := h
  have hshrinks := shrinks_gapPart last k p.next[l] l p.state
  refine ⟨?_, fun i => ?_⟩
  · unfold gapAdvance
    split
    · exact map_eq_of_port hshrinks.1
    · rfl
  · rw [next_gapAdvance]
    by_cases h2 : p.next[l] ≤ 2
    · have hstate : (gapAdvance last k p l).state = gapPart last k p.next[l] l p.state := by rw [gapAdvance, if_pos h2]
      rw [hstate]
      by_cases hi : l = i
      · subst hi
        rw [if_pos ⟨rfl, h2⟩]
        exact gapped_gapPart last k p.state _ l (ht l)
      · rw [if_neg (fun hc => hi hc.1)]
        exact (ht i).shrinks (hshrinks.2 i)
    · have hstate : gapAdvance last k p l = p := if_neg h2
      rw [hstate, if_neg]
      · exact ht i
      · rintro ⟨rfl, hle⟩
        exact h2 hle

/-- The gap handling leaves every lane in the window of stage 3 (R54, R135, R136). -/
theorem window_gapHandling (last k : Index) (order : List Lane) (s : State) (h : ∀ l, (s.track l).Gapped k s.map.e 0) (g : Nat)
    (l : Lane) : ((gapHandling last k order s).track l).Window k s.map.e g 3 := by
  have hcount : ((List.replicate 3 (List.finRange 6)).flatten).count l = 3 := by decide +revert
  unfold gapHandling
  simp only
  have hstart : Gapping k s.map ⟨s.latchChip .indexGap (bytes16 last ++ bytes16 k), Vector.replicate 6 0⟩ :=
    ⟨rfl, fun i => by simpa using h i⟩
  have hend := foldl_keeps (Gapping k s.map) (gapAdvance last k) (order ++ (List.replicate 3 (List.finRange 6)).flatten) _ hstart
    (fun p i _ hp => hp.advance last i)
  refine (hend.tracks l).window ?_ g
  refine le_trans ?_ (next_foldl_gapAdvance last k _ _ l)
  rw [List.count_append, hcount]
  omega

/-! ## The frames' classes -/

/-- A lane that is not IDLE works with a Station Map in range (R2). -/
theorem map_pos (s : State) (h : ∀ m ∈ s.stations, m.inRange = true) (hs : s.stations ≠ none) : 0 < s.map.e ∧ 0 < s.map.g := by
  obtain ⟨m, hm⟩ := Option.ne_none_iff_exists'.1 hs
  have hr := h m hm
  simp only [StationMap.inRange, Bool.and_eq_true, decide_eq_true_eq] at hr
  simp only [State.map, hm, mapOf, Option.getD_some]
  omega

theorem map_g_le (s : State) (h : ∀ m ∈ s.stations, m.inRange = true) : s.map.g ≤ 3 := by
  unfold State.map
  cases hm : s.stations with
  | none => simp [mapOf]
  | some m =>
    have := h m hm
    simp only [StationMap.inRange, Bool.and_eq_true, decide_eq_true_eq] at this
    simp only [mapOf, Option.getD_some]
    omega

/-- One index later every card has moved on by one position (R10), and every gate entry is one frame older. -/
theorem Track.Window.later {l : Lane} {ready : Prop} {last k : Index} {e g : Nat} {a : Track} (hs : a.Sound l ready)
    (ha : a.Window last e g 8) (he : e ≤ 31) (hg : g ≤ 3) (hd : (k - last).toNat = 1) : a.Window k e g 1 := by
  obtain ⟨⟨ho, hw⟩, hgo, hgate⟩ := (Track.window_between_iff (by omega) a).1 ha
  have hpos : ∀ c ∈ a.web, c.position k = c.position last + 1 := fun c hc => by
    have := hw c hc
    rw [c.position_later last k (by omega), hd]
  have hage : ∀ c ∈ a.gate, gateAge k c = gateAge last c + 1 := fun c hc => by
    obtain ⟨i, hi⟩ := Option.isSome_iff_exists.1 (hs.gate c hc).1
    have := hgate c hc
    rw [gateAge_eq hi] at this ⊢
    rw [gateAge_eq hi, toNat_sub_add i last k (by omega), hd]
  refine ⟨ho.imp_of_mem fun {x y} hx hy hlt => ?_, fun c hc => ?_, hgo.imp_of_mem fun {x y} hx hy hlt => ?_, fun c hc => ?_⟩
  · rw [hpos x hx, hpos y hy]; omega
  · have := hw c hc
    rw [hpos c hc]
    exact ⟨by omega, fun h => absurd h (by omega), fun _ => by omega⟩
  · rw [hage x hx, hage y hy]; omega
  · have := hgate c hc
    rw [hage c hc]
    exact ⟨by omega, fun h => absurd h (by omega), fun _ => by omega⟩

/-- After a gap every card stands above position 0 in the same order (R10). -/
theorem Track.Window.gapped {last k : Index} {e g : Nat} {a : Track} (ha : a.Window last e g 8) (he : e ≤ 31)
    (hd : 2 ≤ (k - last).toNat ∧ (k - last).toNat ≤ 8) : a.Gapped k e 0 := by
  obtain ⟨⟨ho, hw⟩, -⟩ := (Track.window_between_iff (by omega) a).1 ha
  have hpos : ∀ c ∈ a.web, c.position k = c.position last + (k - last).toNat := fun c hc => by
    have := hw c hc
    exact c.position_later last k (by omega)
  refine ⟨ho.imp_of_mem fun {x y} hx hy hlt => ?_, fun c hc => ⟨?_, fun h => absurd h (by omega)⟩, fun h => absurd h (by omega)⟩
  · rw [hpos x hx, hpos y hy]; omega
  · rw [hpos c hc]; omega

/-- Whatever its class, a frame begins its pitch steps with every lane in the window of their first stage (R9, R54). -/
theorem Windowed.continuity {ready : Lane → Prop} {s : State} (hs : Windowed s) (ht : TracksSound ready s)
    (hst : ∀ m ∈ s.stations, m.inRange = true) (f : Frame) (gapOrder : List Lane) (l : Lane) :
    ((continuity (classify s.lastIndex (frameIndex f)) (frameIndex f) gapOrder s).track l).Window (frameIndex f) s.map.e s.map.g
      (stepCtx f (classify s.lastIndex (frameIndex f))).firstStage := by
  have he := map_e_le s hst
  cases hlast : s.lastIndex with
  | none =>
    obtain ⟨hw, hg⟩ := (hs l).2 hlast
    exact Track.window_nil hw hg _ _ _ _
  | some last =>
    have hw : ∀ i, (s.track i).Window last s.map.e s.map.g 8 := fun i => (hs i).1 last hlast
    cases hc : classify (some last) (frameIndex f) with
    | first => exact absurd hc (by unfold classify; simp only; split <;> [simp; split <;> [simp; split <;> simp]])
    | next => exact (hw l).later (ht l) he (map_g_le s hst) (toNat_of_classify_next hc)
    | again =>
      have hk : last = frameIndex f := Option.some.inj ((classify_eq_again _ _).1 hc)
      have := hw l
      rw [hk] at this
      exact this
    | gap =>
      have hgap : Machine.continuity .gap (frameIndex f) gapOrder s = gapHandling last (frameIndex f) gapOrder s := by
        unfold Machine.continuity; rw [hlast]
      rw [hgap]
      exact window_gapHandling last _ gapOrder s (fun i => (hw i).gapped he (toNat_of_classify_gap hc)) _ l
    | lost =>
      have hlost : Machine.continuity .lost (frameIndex f) gapOrder s = lostTrack last (frameIndex f) s := by
        unfold Machine.continuity; rw [hlast]
      rw [hlost]
      obtain ⟨-, hn⟩ := ht.lostTrack last (frameIndex f) he
      exact Track.window_nil (hn l).1 (hn l).2 _ _ _ _

theorem Windowed.beginCycle {ready : Lane → Prop} {s : State} (hs : Windowed s) (ht : TracksSound ready s)
    (hst : ∀ m ∈ s.stations, m.inRange = true) (f : Frame) (gapOrder : List Lane) (l : Lane) :
    ((beginCycle f (classify s.lastIndex (frameIndex f)) gapOrder s).track l).Window (frameIndex f) s.map.e s.map.g
      (stepCtx f (classify s.lastIndex (frameIndex f))).firstStage := by
  have hc := Windowed.continuity (s := frameTaken (classify s.lastIndex (frameIndex f)) s) hs ht hst f gapOrder l
  rw [beginCycle_eq]
  split
  · exact hc
  · exact hc.fewer ((shrinks_frameAccepted (frameIndex f) _).2 l).fewer

/-- A cycle frame leaves every lane within its window at the frame's index. -/
theorem Windowed.processCycle {s : State} (hs : Windowed s) (ht : TracksSound (fun _ => s.stations ≠ none) s)
    (hst : ∀ m ∈ s.stations, m.inRange = true) (f : Frame) (gapOrder : List Lane) (ticks : List Tick) :
    Windowed (processCycle f gapOrder ticks s).state := by
  have hp := port_processCycle f gapOrder ticks s
  have hmap : (Machine.processCycle f gapOrder ticks s).state.map = s.map := by
    simpa [State.map] using congrArg (fun u : State => mapOf u.stations) hp
  have hlast : (Machine.processCycle f gapOrder ticks s).state.lastIndex = some (frameIndex f) := by
    simpa using congrArg State.lastIndex hp
  have hbegin : (Machine.beginCycle f (classify s.lastIndex (frameIndex f)) gapOrder s).map = s.map := by
    simpa [State.map] using congrArg (fun u : State => mapOf u.stations) (port_beginCycle f gapOrder s)
  have hfirst : 1 ≤ (stepCtx f (classify s.lastIndex (frameIndex f))).firstStage := by
    unfold stepCtx; simp only; split <;> omega
  intro l
  refine ⟨fun k hk => ?_, fun hn => by rw [hlast] at hn; cases hn⟩
  obtain rfl : frameIndex f = k := by rw [hlast] at hk; simpa using hk
  rw [(slotsWritten_processCycle f gapOrder ticks s).track, hmap]
  exact windows_runPitchSteps (stepCtx f _) ticks _ hfirst hbegin (ht.beginCycle f _ gapOrder (map_e_le s hst))
    (fun _ hr => map_pos s hst hr) (hs.beginCycle ht hst f gapOrder) l

/-! ## Requests and the other commands -/

/-- Nothing that the windows read changes but cards that leave. -/
theorem Windowed.fewer {s t : State} (hs : Windowed s) (hlast : t.lastIndex = s.lastIndex) (hst : t.stations = s.stations)
    (h : ∀ l, (s.track l).Fewer (t.track l)) : Windowed t := by
  intro l
  have hmap : t.map = s.map := by rw [State.map, hst]; rfl
  rw [hlast, hmap]
  refine ⟨fun k hk => ((hs l).1 k hk).fewer (h l), fun hn => ?_⟩
  obtain ⟨hw, hg⟩ := (hs l).2 hn
  have hw' := (h l).web
  have hg' := (h l).gate
  rw [hw] at hw'
  rw [hg] at hg'
  exact ⟨by simpa using hw', by simpa using hg'⟩

theorem Windowed.shrinks {s t : State} (hs : Windowed s) (h : s.Shrinks t) : Windowed t :=
  hs.fewer (by simpa using congrArg State.lastIndex h.1) (by simpa using congrArg State.stations h.1) (fun l => (h.2 l).fewer)

theorem Windowed.same {s t : State} (hs : Windowed s) (hlast : t.lastIndex = s.lastIndex) (hst : t.stations = s.stations)
    (h : t.track = s.track) : Windowed t := hs.fewer hlast hst (fun l => by rw [h]; exact .refl _)

/-- A lane record changed in anything but its web list (R25). -/
theorem Windowed.updLane {s : State} (hs : Windowed s) (l : Lane) {f : LaneRec → LaneRec} (hf : ∀ r, (f r).web = r.web) :
    Windowed (s.updLane l f) := by
  refine hs.fewer rfl rfl (fun m => ?_)
  rw [State.track_updLane]
  split
  · exact ⟨by simp [hf], .refl _⟩
  · exact .refl _

/-- With no card on any list every window is kept. -/
theorem windowed_empty {s : State} (h : ∀ l, (s.track l).web = [] ∧ (s.track l).gate = []) : Windowed s := fun l =>
  ⟨fun k _ => Track.window_nil (h l).1 (h l).2 k _ _ _, fun _ => h l⟩

theorem Windowed.served {ready : Lane → Prop} {s u : State} (hs : Windowed s) (ht : TracksSound ready s) (h : Served s u) :
    Windowed u := by
  cases h with
  | kept => exact hs
  | mapped m hidle hm => exact hs.same rfl rfl rfl
  | placed m hidle hgate hm => exact windowed_empty (fun l => (ht l).idle ((allIdle_iff s).1 hidle l))
  | loaded b n r hb hrefs hr => exact hs.same (s.setEntry_lastIndex b n _) (s.setEntry_stations b n _) (s.track_setEntry b n _)
  | switched x => exact hs.same rfl rfl rfl
  | started l e hidle hm hmap he =>
    have hrun := hs.updLane l (f := fun r => { r with state := .run, assigned := e }) (by intros; rfl)
    unfold State.startLane
    simp only
    split
    · exact hrun.shrinks (State.shrinks_zoneFaultBegins _ l false)
    · exact hrun
  | reassigned l e hd he => exact hs.updLane l (by intros; rfl)
  | resumed l hd => exact hs.updLane l (by intros; rfl)
  | drained l hr => exact hs.updLane l (by intros; rfl)
  | purged l hw =>
    have hmarked := hs.shrinks (s.shrinks_mapWeb l (Card.addReason .lanePurge) (fun c => by simp))
    exact (hmarked.updLane l (f := fun r => { r with state := .drain }) (by intros; rfl)).same rfl rfl rfl
  | cleared l hf hw hg hb =>
    refine hs.fewer rfl rfl (fun m => ?_)
    rw [s.track_clearLane, Function.update_apply]
    split
    · next h => subst h; exact ⟨.refl _, .refl _⟩
    · exact .refl _
  | scheduled l ch hw => exact hs.updLane l (by intros; rfl)
  | forced l b => exact hs.updLane l (by intros; rfl)
  | autoPurged l b => exact hs.updLane l (by intros; rfl)
  | zeroedAll =>
    exact (hs.shrinks (s.shrinks_eachLane (fun l t => t.updLane l LaneRec.clearCounters)
      (fun l t => t.shrinks_updLane_same l _ (by intros; rfl)))).same rfl rfl rfl
  | zeroed l => exact hs.updLane l (by intros; rfl)
  | alarmsRead sc => exact hs.shrinks (State.shrinks_settled (s.shrinks_clearLatches sc))
  | masked summary stop sc => exact hs.shrinks (State.shrinks_settled (s.shrinks_maskScope summary stop sc))
  | zoneSet l offset limit ho hl => exact hs.same rfl rfl rfl
  | zonesRead raws => exact hs.shrinks (s.shrinks_converts raws)
  | roleSet r hr => exact hs.same rfl rfl rfl
  | restarted => exact windowed_empty (fun l => by rw [s.track_restart]; exact ⟨rfl, rfl⟩)

theorem windowed_reset : Windowed State.reset := windowed_empty (fun l => by rw [track_reset]; exact ⟨rfl, rfl⟩)

theorem Windowed.effect {s t : State} (hs : Windowed s) (ht : TracksSound (fun _ => s.stations ≠ none) s)
    (hst : ∀ m ∈ s.stations, m.inRange = true) (h : Effect s t) : Windowed t := by
  cases h with
  | kept => exact hs
  | reset addr high => exact windowed_reset.same rfl rfl rfl
  | halted => exact hs.same rfl rfl rfl
  | removed => exact windowed_reset.same rfl rfl rfl
  | arrived f h =>
    refine hs.same ?_ ?_ (s.track_arrive f)
    all_goals unfold State.arrive; split <;> [rfl; split <;> rfl]
  | departed f rest h hp hb => exact hs.same rfl rfl rfl
  | rejected f rest cause h hp hb => exact hs.same rfl rfl rfl
  | taken f rest p h hp hb => exact hs.same rfl rfl rfl
  | handedOn f rest h hp hb => unfold State.handOnCycle; split <;> exact hs.same rfl rfl rfl
  | cycled f rest gapOrder ticks h =>
    exact (hs.processCycle ht hst f gapOrder ticks).same (State.sendHead_lastIndex _ _) (State.sendHead_stations _ _)
      (State.track_sendHead _ _)
  | saturated h => exact hs.same rfl rfl rfl
  | converted raw h => exact hs.shrinks (s.shrinks_convert raw _)
  | faulted l h => exact hs.shrinks (s.shrinks_faultAfterStep l)
  | answered f g u hf hg hu =>
    exact (hs.served ht hu).same (State.sendHead_lastIndex _ _) (State.sendHead_stations _ _) (State.track_sendHead _ _)

theorem Windowed.tick {s : State} (hs : Windowed s) : Windowed s.tick := by
  unfold State.tick
  split
  · exact hs.same rfl rfl rfl
  · exact hs

/-- What the windows need to hold of a state for its next step to keep them: the windows, sound tracks, and a Station Map in range. -/
structure WindowsKept (s : State) : Prop where
  windows : Windowed s
  tracks : TracksSound (fun _ => s.stations ≠ none) s
  stations : ∀ m ∈ s.stations, m.inRange = true

end Sys2Proof.Machine

namespace Sys2Proof.Proofs

open Sys2Proof.Machine Sys2Proof.Safety

/-- Settles O56: between frames every lane stands in the window after stage 7; a frame begins in the window of its first stage, each stage
leads to the next one's, and nothing else adds a card. -/
theorem stepKeepsWebAndGateWindows : Obligations.StepKeepsWebAndGateWindows := by
  rintro s t ⟨hweb, hgate, hlists, hidle, hblind, hst, hall⟩ h
  have hready : ∀ l, (s.lane l).state ≠ .idle → s.stations ≠ none := fun l hl hn => hl ((allIdle_iff s).1 (hall hn) l)
  have hs : WindowsKept s := ⟨(windowed_iff s).2 ⟨hweb, hgate⟩, (tracksSound_iff _ s).2 ⟨hlists, hidle, hblind, hready⟩, hst⟩
  refine (windowed_iff t).1 (step_leads_to WindowsKept Windowed ?_ (fun s hs => hs.windows.tick)
    (fun s t hs he => hs.windows.effect hs.tracks hs.stations he) hs h)
  exact fun s q hs => ⟨hs.windows.same rfl rfl rfl, hs.tracks, hs.stations⟩

end Sys2Proof.Proofs
end

section
/-! PROOFS. The Frame Buffer, the kept views, the bypass drive and the saturating counters stay in range (R12, R14, R33, R84, R142 to
R144, R146). -/

namespace Sys2Proof.Machine

open Sys2Proof.Safety

/-! ## Lengths of frames -/

/-- A patched frame is no shorter than it was, and no longer than it was or the patch needs. -/
theorem length_patch_bounds (f : List Byte) (i : Nat) (bs : List Byte) :
    f.length ≤ (patch f i bs).length ∧ (patch f i bs).length ≤ max f.length (i + bs.length) := by
  simp only [patch, List.length_append, List.length_take, List.length_drop]
  omega

theorem frameLengthOk_iff (f : Frame) : frameLengthOk f = true ↔ 3 ≤ f.length ∧ f.length ≤ 778 := by simp [frameLengthOk]

/-- A patch within the longest frame keeps a length that the buffer takes (R144). -/
theorem frameLengthOk_patch {f : Frame} (h : frameLengthOk f = true) {i : Nat} {bs : List Byte} (hi : i + bs.length ≤ 778) :
    frameLengthOk (patch f i bs) = true := by
  rw [frameLengthOk_iff] at h ⊢
  have := length_patch_bounds f i bs
  omega

theorem frameLengthOk_withCrc {f : Frame} (h : frameLengthOk f = true) : frameLengthOk (withCrc f) = true := by
  rw [frameLengthOk_iff] at h ⊢
  rwa [length_withCrc f (by omega)]

/-- A reply or a counted broadcast frame has a length that the buffer takes (R161, R162). -/
theorem frameLengthOk_answered {f g : Frame} (h : frameLengthOk f = true) (hg : Answered f g) : frameLengthOk g = true := by
  cases hg with
  | reply status data =>
    exact frameLengthOk_withCrc (frameLengthOk_patch (frameLengthOk_patch h (by simp)) (by simp))
  | count i hi => exact frameLengthOk_withCrc (frameLengthOk_patch h (by rw [List.length_singleton]; omega))

/-! ## The slots of a cycle frame -/

/-- The end of a cycle frame keeps what each of the 48 entries in its place and the status slot keep, and then regenerates the CRC. -/
theorem finishCycle_keeps_slots (P : Work → Prop) (isRepeat : Bool) (f : Frame) (s : State) (hs : P ⟨s, f⟩)
    (hslot : ∀ w (i : Fin 48), P w → P (commandSlot isRepeat w (s.slotMap[i], i.val))) (hstatus : ∀ w, P w → P (writeStatus w))
    (hcrc : ∀ w, P w → P { w with frame := withCrc w.frame }) : P (finishCycle isRepeat f s) := by
  refine hcrc _ (hstatus _ (foldl_keeps P _ _ _ hs (fun w e he hw => ?_)))
  obtain ⟨u, i⟩ := e
  have hi := List.mk_mem_zipIdx_iff_getElem?.1 he
  obtain ⟨hlt, rfl⟩ := List.getElem?_eq_some_iff.1 hi
  exact hslot w ⟨i, by simpa using hlt⟩ hw

/-- The slot of a mapped use is one of the 48. -/
theorem State.slotOf_lt {s : State} {u : SlotUse} {i : Nat} (h : s.slotOf u = some i) : i < 48 := by
  obtain ⟨hlt, -⟩ := List.findIdx?_eq_some_iff_getElem.1 h
  simpa using hlt

/-- A slot written within the 48 keeps a length that the buffer takes. -/
theorem frameLengthOk_putSlot {f : Frame} (h : frameLengthOk f = true) {i : Nat} (hi : i < 48) (tag : Byte) (addr : BitVec 6)
    (payload : List Byte) : frameLengthOk (putSlot f i (makeSlot tag addr payload)) = true :=
  frameLengthOk_patch h (by rw [length_makeSlot]; omega)

/-- Handling one entry of the Slot Map leaves the frame as it is, or writes the entry's slot in ACTIVE (R150, R151). -/
theorem frame_commandSlot (isRepeat : Bool) (w : Work) (u : SlotUse) (i : Nat) :
    (commandSlot isRepeat w (u, i)).frame = w.frame ∨
      (∃ kind l, u = .command kind l) ∧ w.state.role = .active ∧ i < slotCount w.frame ∧
        ∃ tag payload, (commandSlot isRepeat w (u, i)).frame = putSlot w.frame i (makeSlot tag w.state.nodeAddr payload) := by
  have hcompare : ∀ kind l, (compareCommand isRepeat i kind l w).frame = w.frame := by
    intro kind l
    unfold compareCommand
    simp only
    split
    · split <;> rfl
    · split <;> rfl
  cases u with
  | command kind l =>
    unfold commandSlot
    simp only
    split
    · next hr =>
      unfold writeCommand
      split
      · exact .inl rfl
      · split
        · next hlt =>
          simp only
          split
          · exact .inr ⟨⟨kind, l, rfl⟩, hr, hlt, _, _, rfl⟩
          · exact .inl rfl
        · exact .inl rfl
    · exact .inl (hcompare kind l)
    · exact .inl rfl
  | unused => exact .inl rfl
  | report kind l => exact .inl rfl
  | status => exact .inl rfl

/-- The status slot is written where it is mapped and present (R152). -/
theorem frame_writeStatus (w : Work) :
    (writeStatus w).frame = w.frame ∨ ∃ i payload, w.state.slotOf .status = some i ∧ i < slotCount w.frame ∧
      (writeStatus w).frame = putSlot w.frame i (makeSlot tagStatus w.state.nodeAddr payload) := by
  unfold writeStatus
  split
  · exact .inl rfl
  · next i hi =>
    split
    · next hlt => exact .inr ⟨i, _, hi, hlt, rfl⟩
    · exact .inl rfl

theorem frameLengthOk_finishCycle (isRepeat : Bool) {f : Frame} (s : State) (h : frameLengthOk f = true) :
    frameLengthOk (finishCycle isRepeat f s).frame = true := by
  refine finishCycle_keeps_slots (fun w => frameLengthOk w.frame = true) isRepeat f s h (fun w i hw => ?_) (fun w hw => ?_)
    (fun w hw => frameLengthOk_withCrc hw)
  · rcases frame_commandSlot isRepeat w s.slotMap[i] i with h | ⟨-, -, -, tag, payload, h⟩
    · rwa [h]
    · rw [h]; exact frameLengthOk_putSlot hw i.isLt _ _ _
  · rcases frame_writeStatus w with h | ⟨i, payload, hi, -, h⟩
    · rwa [h]
    · rw [h]; exact frameLengthOk_putSlot hw (State.slotOf_lt hi) _ _ _

/-! ## The Pitch Timer -/

/-- The count and the average of the Pitch Timer are in range (R12, R14). -/
def PitchTimer.InRange (t : PitchTimer) : Prop := t.count ≤ 65535 ∧ ∀ p ∈ t.average, 100 ≤ p ∧ p ≤ 65535

/-- Offering a capture keeps the average in range (R14). -/
theorem PitchTimer.average_offer (capture : Nat) (t : PitchTimer) (h : ∀ p ∈ t.average, 100 ≤ p ∧ p ≤ 65535) :
    ∀ p ∈ (t.offer capture).average, 100 ≤ p ∧ p ≤ 65535 := by
  unfold PitchTimer.offer
  split
  · split
    · simp only [Option.mem_some_iff, forall_eq']; omega
    · exact h
  · split
    · simp only [Option.mem_some_iff, forall_eq']; omega
    · exact h

theorem PitchTimer.InRange.frame {t : PitchTimer} (h : t.InRange) (cls : FrameClass) : (t.frame cls).InRange := by
  cases cls with
  | next => exact ⟨Nat.zero_le _, t.average_offer t.count h.2⟩
  | first => exact ⟨Nat.zero_le _, h.2⟩
  | again => exact ⟨Nat.zero_le _, h.2⟩
  | gap => exact ⟨Nat.zero_le _, h.2⟩
  | lost => exact ⟨Nat.zero_le _, h.2⟩

theorem PitchTimer.InRange.tick {t : PitchTimer} (h : t.InRange) : t.tick.InRange := ⟨Nat.min_le_right _ _, h.2⟩

/-! ## The silence counters -/

/-- Every lane's silence counters are in range (R84). -/
def SilenceKept (s : State) : Prop := ∀ l, (s.track l).silence.InRange

theorem SilenceKept.shrinks {s t : State} (hs : SilenceKept s) (h : s.Shrinks t) : SilenceKept t := fun l => (h.2 l).silence (hs l)

theorem SilenceKept.of_eq {s t : State} (hs : SilenceKept s) (h : t.track = s.track) : SilenceKept t := fun l => by
  rw [h]; exact hs l

theorem SilenceKept.update {s t : State} (hs : SilenceKept s) {l : Lane} {b : Track} (h : t.track = Function.update s.track l b)
    (hb : b.silence = (s.track l).silence) : SilenceKept t := by
  intro m
  rw [h, Function.update_apply]
  split
  · next hm => subst hm; rw [hb]; exact hs m
  · exact hs m

/-- A lane record changed in anything but its silence counters. -/
theorem SilenceKept.updLane {s : State} (hs : SilenceKept s) (l : Lane) {f : LaneRec → LaneRec}
    (hf : ∀ r, (f r).silence = r.silence) : SilenceKept (s.updLane l f) :=
  hs.update (s.track_updLane_update l f) (hf _)

/-- The punch reads and writes no silence counter (R117). -/
theorem silence_stage4 (k : Index) (l : Lane) (s : State) (m : Lane) :
    ((stage4 k l s).lane m).silence = (s.lane m).silence := by
  have upd : ∀ (u : State) (f : LaneRec → LaneRec), (∀ r, (f r).silence = r.silence) →
      ((u.updLane l f).lane m).silence = (u.lane m).silence := fun u f hf => u.lane_updLane_proj LaneRec.silence l m f hf
  have hpass : ∀ (u : State) c, ((u.passAtPunch l c).1.lane m).silence = (u.lane m).silence := by
    intro u c
    have h := congrArg (fun t => Track.silence (t m)) (u.track_passAtPunch l c)
    simp only [Function.update_apply, State.track_silence] at h
    rw [h]
    split
    · next hm => subst hm; rfl
    · rfl
  have hreject : ∀ (u : State) c, ((u.rejectAtPunch k l c).lane m).silence = (u.lane m).silence := by
    intro u c
    have h := upd u (fun r => LaneRec.planGate true (c.addReasonIf (u.lane l).force .forced).serial
      (c.addReasonIf (u.lane l).force .forced).firstReason { r with web := r.web.tail }) (by intros; rfl)
    exact h
  have hpunch : ((s.punch k l).1.lane m).silence = (s.lane m).silence := by
    unfold State.punch
    split
    · exact upd s _ (by intros; rfl)
    · have h0 := upd s (fun r => { r with blindAnswer := false }) (by intros; rfl)
      simp only
      split
      · exact h0
      · split
        · split
          · exact (hpass _ _).trans h0
          · exact (hreject _ _).trans h0
        · exact h0
  exact (upd _ _ (by intros; rfl)).trans hpunch

theorem SilenceKept.runStage {s : State} (hs : SilenceKept s) (x : StepCtx) (n : Nat) (l : Lane) : SilenceKept (runStage x n l s) := by
  unfold Machine.runStage
  split
  · exact hs.shrinks (shrinks_stage1 _ _ _ l s)
  · exact hs.shrinks (shrinks_stage2 _ l s)
  · exact hs.shrinks (shrinks_stage3 _ l s)
  · intro m
    show ((stage4 x.index l s).lane m).silence.InRange
    rw [silence_stage4]
    exact hs m
  · obtain ⟨-, ht | ⟨-, c, -, -, -, ht⟩⟩ := stage5_cases x.index l s
    · exact hs.of_eq ht
    · exact hs.update ht rfl
  · exact hs.shrinks (shrinks_stage6 _ l s)
  · refine SilenceKept.shrinks ?_ (State.shrinks_faultAfterStep _ l)
    obtain ⟨-, ht | ⟨-, -, -, ht⟩⟩ := stage7_cases l s
    · exact hs.of_eq ht
    · exact hs.update ht rfl
  · exact hs

theorem SilenceKept.lostTrack {s : State} (hs : SilenceKept s) (last k : Index) : SilenceKept (lostTrack last k s) := by
  refine State.eachLane_keeps SilenceKept _ _ (hs.shrinks s.shrinks_loseCards) (fun l t ht => ?_)
  have htrack := t.track_loseLane last k l
  split at htrack
  · exact ht.of_eq htrack
  · exact ht.update htrack (by simp)

theorem SilenceKept.continuity {s : State} (hs : SilenceKept s) (cls : FrameClass) (k : Index) (gapOrder : List Lane) :
    SilenceKept (continuity cls k gapOrder s) := by
  unfold Machine.continuity
  split
  · exact hs
  · exact hs.shrinks (shrinks_gapHandling _ k gapOrder s)
  · exact hs.lostTrack _ k
  · exact hs

theorem SilenceKept.processCycle {s : State} (hs : SilenceKept s) (f : Frame) (gapOrder : List Lane) (ticks : List Tick) :
    SilenceKept (processCycle f gapOrder ticks s).state := by
  have hbegin : SilenceKept (beginCycle f (classify s.lastIndex (frameIndex f)) gapOrder s) := by
    have hc : SilenceKept (Machine.continuity (classify s.lastIndex (frameIndex f)) (frameIndex f) gapOrder
        (frameTaken (classify s.lastIndex (frameIndex f)) s)) :=
      SilenceKept.continuity (s := frameTaken (classify s.lastIndex (frameIndex f)) s) hs _ _ gapOrder
    rw [beginCycle_eq]
    split
    · exact hc
    · exact fun l => ((shrinks_frameAccepted (frameIndex f) _).2 l).silence (hc l)
  have hsteps : SilenceKept (stepped f gapOrder ticks s) :=
    runPitchSteps_keeps SilenceKept _ ticks _ hbegin (fun n l t ht => ht.runStage _ n l)
      (fun raw inStep t _ ht => ht.shrinks (t.shrinks_convert raw inStep))
  exact hsteps.of_eq (slotsWritten_processCycle f gapOrder ticks s).track

/-! ## What the port's laws read -/

/-- The laws of the Frame Buffer, the bypass drive and the counters, as one property of a state. -/
structure PortSound (s : State) : Prop where
  buffer : BufferSound s
  bypass : BypassSound s
  timer : s.timer.InRange
  silence : SilenceKept s
  ring : s.ring.InRange

theorem portSound_iff (s : State) : PortSound s ↔ BufferSound s ∧ BypassSound s ∧ CountsSound s := by
  constructor
  · rintro ⟨hb, hp, ⟨hcount, havg⟩, hs, hr⟩
    exact ⟨hb, hp, hcount, havg, hs, hr⟩
  · rintro ⟨hb, hp, hcount, havg, hs, hr⟩
    exact ⟨hb, hp, ⟨hcount, havg⟩, hs, hr⟩

/-- The Frame Buffer's laws read the buffer, the phase and the places of the kept views. -/
theorem bufferSound_congr {s t : State} (hs : BufferSound s) (hb : t.buffer = s.buffer) (hp : t.phase = s.phase)
    (hv : t.cardViews.map CardView.place = s.cardViews.map CardView.place) : BufferSound t := by
  obtain ⟨hlen, hok, hphase, hplace, hnodup⟩ := hs
  refine ⟨by rwa [hb], by rwa [hb], by rwa [hb, hp], fun v hmem => ?_, by rwa [hv]⟩
  obtain ⟨w, hw, he⟩ := List.mem_map.1 (hv ▸ List.mem_map_of_mem (f := CardView.place) hmem)
  rw [hb, ← he]
  exact hplace w hw

/-- What a change of tracking, of the last index, the tables or the plans leaves alone: all that the laws read of the port. -/
structure PortKept (s t : State) : Prop where
  power : t.power = s.power
  bypdrv : t.bypdrv = s.bypdrv
  nodeAddr : t.nodeAddr = s.nodeAddr
  role : t.role = s.role
  pendingRole : t.pendingRole = s.pendingRole ∨ ∃ r, t.pendingRole = some r ∧ r ≠ .bypass
  buffer : t.buffer = s.buffer
  phase : t.phase = s.phase
  places : t.cardViews.map CardView.place = s.cardViews.map CardView.place

theorem PortKept.onRing {s t : State} (h : PortKept s t) : t.onRing = s.onRing := by rw [State.onRing, h.power, h.role]; rfl

theorem PortKept.bypass {s t : State} (h : PortKept s t) (hs : BypassSound s) : BypassSound t := by
  obtain ⟨hdrive, hrole, hpending⟩ := hs
  refine ⟨by rw [h.onRing, h.bypdrv]; exact hdrive, by rw [h.power, h.role, h.nodeAddr]; exact hrole, ?_⟩
  rcases h.pendingRole with hp | ⟨r, hp, hr⟩
  · rwa [hp]
  · rw [hp]; simpa using hr

/-- With the port's state kept, what is left are the counters. -/
theorem PortSound.kept {s t : State} (hs : PortSound s) (h : PortKept s t) (ht : t.timer.InRange) (hsil : SilenceKept t)
    (hr : t.ring.InRange) : PortSound t :=
  ⟨bufferSound_congr hs.buffer h.buffer h.phase h.places, h.bypass hs.bypass, ht, hsil, hr⟩

theorem portKept_of_port {s t : State} (h : t.port = s.port) : PortKept s t where
  power := by simpa using congrArg State.power h
  bypdrv := by simpa using congrArg State.bypdrv h
  nodeAddr := by simpa using congrArg State.nodeAddr h
  role := by simpa using congrArg State.role h
  pendingRole := .inl (by simpa using congrArg State.pendingRole h)
  buffer := by simpa using congrArg State.buffer h
  phase := by simpa using congrArg State.phase h
  places := by simpa using congrArg (fun u : State => u.cardViews.map CardView.place) h

/-- A change of tracking keeps the laws where it keeps the silence counters. -/
theorem PortSound.of_port {s t : State} (hs : PortSound s) (h : t.port = s.port) (hsil : SilenceKept t) : PortSound t := by
  have htimer : t.timer = s.timer := by simpa using congrArg State.timer h
  have hring : t.ring = s.ring := by simpa using congrArg State.ring h
  exact hs.kept (portKept_of_port h) (by rw [htimer]; exact hs.timer) hsil (by rw [hring]; exact hs.ring)

theorem PortSound.shrinks {s t : State} (hs : PortSound s) (h : s.Shrinks t) : PortSound t :=
  hs.of_port h.1 (hs.silence.shrinks h)

/-- Changing the kept views in anything but their places changes no place. -/
theorem map_place_map (vs : List CardView) (f : CardView → CardView) (h : ∀ v, (f v).place = v.place) :
    (vs.map f).map CardView.place = vs.map CardView.place := by
  rw [List.map_map]
  exact List.map_congr_left (fun v _ => h v)

/-! ## Requests -/

theorem PortSound.updLane {s : State} (hs : PortSound s) (l : Lane) {f : LaneRec → LaneRec} (hf : ∀ r, (f r).silence = r.silence) :
    PortSound (s.updLane l f) := hs.of_port rfl (hs.silence.updLane l hf)

/-- Every request keeps the laws. -/
theorem PortSound.served {s u : State} (hs : PortSound s) (h : Served s u) : PortSound u := by
  have same : PortKept s s := portKept_of_port rfl
  cases h with
  | kept => exact hs
  | mapped m hidle hm => exact ⟨hs.buffer, hs.bypass, hs.timer, hs.silence, hs.ring⟩
  | placed m hidle hgate hm =>
    exact ⟨bufferSound_congr hs.buffer rfl rfl (map_place_map _ _ (by intros; rfl)), hs.bypass, hs.timer, hs.silence, hs.ring⟩
  | loaded b n r hb hrefs hr =>
    have hk : PortKept s (s.setEntry b n { s.entry b n with recipe := r }) :=
      ⟨by simp, by simp, by simp, by simp, .inl (by simp), by simp, by simp, by simp⟩
    exact hs.kept hk (by simpa using hs.timer) (hs.silence.of_eq (s.track_setEntry b n _)) (by simpa using hs.ring)
  | switched x => exact ⟨hs.buffer, hs.bypass, hs.timer, hs.silence, hs.ring⟩
  | started l e hidle hm hmap he =>
    have hrun := hs.updLane l (f := fun r => { r with state := .run, assigned := e }) (by intros; rfl)
    unfold State.startLane
    simp only
    split
    · exact hrun.shrinks (State.shrinks_zoneFaultBegins _ l false)
    · exact hrun
  | reassigned l e hd he => exact hs.updLane l (by intros; rfl)
  | resumed l hd => exact hs.updLane l (by intros; rfl)
  | drained l hr => exact hs.updLane l (by intros; rfl)
  | purged l hw =>
    have hmarked := (hs.shrinks (s.shrinks_mapWeb l (Card.addReason .lanePurge) (fun c => by simp))).updLane l
      (f := fun r => { r with state := .drain }) (by intros; rfl)
    exact ⟨bufferSound_congr hmarked.buffer rfl rfl (map_place_map _ _ (by intros; rfl)), hmarked.bypass, hmarked.timer,
      hmarked.silence, hmarked.ring⟩
  | cleared l hf hw hg hb => exact hs.of_port rfl (hs.silence.update (s.track_clearLane l) rfl)
  | scheduled l ch hw => exact hs.updLane l (by intros; rfl)
  | forced l b => exact hs.updLane l (by intros; rfl)
  | autoPurged l b => exact hs.updLane l (by intros; rfl)
  | zeroedAll =>
    have hz := hs.shrinks (s.shrinks_eachLane (fun l t => t.updLane l LaneRec.clearCounters)
      (fun l t => t.shrinks_updLane_same l _ (by intros; rfl)))
    exact ⟨hz.buffer, hz.bypass, hz.timer, hz.silence, by simp [RingCounters.InRange]⟩
  | zeroed l => exact hs.updLane l (by intros; rfl)
  | alarmsRead sc => exact hs.shrinks (State.shrinks_settled (s.shrinks_clearLatches sc))
  | masked summary stop sc => exact hs.shrinks (State.shrinks_settled (s.shrinks_maskScope summary stop sc))
  | zoneSet l offset limit ho hl => exact hs.shrinks (.of_eq rfl rfl)
  | zonesRead raws => exact hs.shrinks (s.shrinks_converts raws)
  | roleSet r hr =>
    exact hs.kept ⟨rfl, rfl, rfl, rfl, .inr ⟨r, rfl, hr⟩, rfl, rfl, rfl⟩ hs.timer hs.silence hs.ring
  | restarted =>
    have hk : PortKept s s.restart := ⟨rfl, rfl, rfl, rfl, .inl rfl, rfl, rfl, map_place_map _ _ (by intros; rfl)⟩
    refine hs.kept hk ⟨by simp [State.restart], by simp [State.restart]⟩ (fun l => ?_) hs.ring
    rw [s.track_restart]
    exact ⟨by simp, by simp, by simp, by simp⟩

/-- No request touches the Frame Buffer. -/
theorem Served.buffer {s u : State} (h : Served s u) : u.buffer = s.buffer := by
  have shrinks : ∀ {t : State}, s.Shrinks t → t.buffer = s.buffer := fun ht => (portKept_of_port ht.1).buffer
  cases h with
  | loaded b n r hb hrefs hr => exact s.setEntry_buffer b n _
  | started l e hidle hm hmap he =>
    unfold State.startLane
    simp only
    split
    · exact (portKept_of_port (State.shrinks_zoneFaultBegins _ l false).1).buffer
    · rfl
  | alarmsRead sc => exact shrinks (State.shrinks_settled (s.shrinks_clearLatches sc))
  | masked summary stop sc => exact shrinks (State.shrinks_settled (s.shrinks_maskScope summary stop sc))
  | zonesRead raws => exact shrinks (s.shrinks_converts raws)
  | zeroedAll =>
    have h := shrinks (s.shrinks_eachLane (fun l t => t.updLane l LaneRec.clearCounters)
      (fun l t => t.shrinks_updLane_same l _ (by intros; rfl)))
    exact h
  | _ => rfl

/-! ## Commands -/

/-- The frame at the head is sent, as it is or with another of a length the buffer takes (R144, R145). -/
theorem BufferSound.sendHead {s : State} (hs : BufferSound s) (g : Frame)
    (hg : ∀ f rest, s.buffer = f :: rest → frameLengthOk g = true) : BufferSound (s.sendHead g) := by
  unfold State.sendHead
  split
  · exact hs
  · next f rest hb =>
    obtain ⟨hlen, hok, hphase, hplace, hnodup⟩ := hs
    rw [hb] at hlen hok hplace
    refine ⟨hlen, fun x hx => ?_, by simp, hplace, hnodup⟩
    rcases List.mem_cons.1 hx with rfl | hx
    · exact hg f rest hb
    · exact hok x (by simp [hx])

theorem PortSound.sendHead {s : State} (hs : PortSound s) (g : Frame)
    (hg : ∀ f rest, s.buffer = f :: rest → frameLengthOk g = true) : PortSound (s.sendHead g) := by
  refine ⟨BufferSound.sendHead hs.buffer g hg, ?_, by simpa using hs.timer, hs.silence.of_eq (s.track_sendHead g), by simpa using hs.ring⟩
  have := hs.bypass
  simpa [BypassSound, State.onRing] using this

/-- An arriving frame joins the buffer while it has room (R144). -/
theorem PortSound.arrive {s : State} (hs : PortSound s) (f : Frame) : PortSound (s.arrive f) := by
  unfold State.arrive
  split
  · exact ⟨hs.buffer, hs.bypass, hs.timer, hs.silence, hs.ring.addDiscarded⟩
  · next hok =>
    split
    · next hroom =>
      obtain ⟨hlen, hall, hphase, hplace, hnodup⟩ := hs.buffer
      refine ⟨⟨by simp; omega, fun g hg => ?_, by simp, fun v hv => ?_, hnodup⟩, hs.bypass, hs.timer, hs.silence, hs.ring⟩
      · rcases List.mem_append.1 hg with hg | hg
        · exact hall g hg
        · obtain rfl : g = f := by simpa using hg
          simpa using hok
      · have := hplace v hv
        rw [List.length_append]
        omega
    · exact ⟨hs.buffer, hs.bypass, hs.timer, hs.silence, hs.ring.addDiscarded⟩

/-- A frame leaves, and the kept views come one place nearer the head (R144). -/
theorem BufferSound.depart {s : State} (hs : BufferSound s) (f : Frame) (rest : List Frame) (hb : s.buffer = f :: rest)
    (out : Option Frame) : BufferSound { s with
      buffer := rest, phase := .waiting, cardViews := viewsAfterDeparture s.cardViews, ringOut := out } := by
  obtain ⟨hlen, hok, hphase, hplace, hnodup⟩ := hs
  rw [hb] at hlen hok hplace
  rw [List.length_cons] at hlen
  refine ⟨by show rest.length ≤ 4; omega, fun g hg => hok g (by simp [hg]), fun h => absurd rfl h, fun v hv => ?_, ?_⟩
  · obtain ⟨w, hw, rfl⟩ := List.mem_map.1 hv
    obtain ⟨hmem, hpos⟩ := List.mem_filter.1 hw
    have hlt := hplace w hmem
    rw [List.length_cons] at hlt
    have hpos' : 0 < w.place := by simpa using hpos
    show w.place - 1 < rest.length
    omega
  · have hplaces : (viewsAfterDeparture s.cardViews).map CardView.place =
        ((s.cardViews.filter (fun v => 0 < v.place)).map CardView.place).map (· - 1) := by
      simp only [viewsAfterDeparture, List.map_map]; rfl
    show ((viewsAfterDeparture s.cardViews).map CardView.place).Nodup
    rw [hplaces]
    refine List.Nodup.map_on (fun x hx y hy hxy => ?_) (hnodup.sublist (List.filter_sublist.map _))
    have hpos : ∀ z ∈ (s.cardViews.filter (fun v => 0 < v.place)).map CardView.place, 0 < z := fun z hz => by
      obtain ⟨w, hw, rfl⟩ := List.mem_map.1 hz
      simpa using (List.mem_filter.1 hw).2
    have hx' := hpos x hx
    have hy' := hpos y hy
    omega

/-- No place is held twice (R33). -/
theorem State.nodup_heldCards (s : State) : s.heldCards.Nodup := by
  have h : (s.buffer.tail.zipIdx 1).map Prod.snd = List.range' 1 s.buffer.tail.length := by simp [List.zipIdx_map_snd]
  refine List.Nodup.sublist (List.filter_sublist.map _) ?_
  rw [h]
  exact List.nodup_range'

/-- The views kept for the held READ_CARD requests are for frames in the buffer that had none (R33). -/
theorem BufferSound.holdViews {s : State} (hs : BufferSound s) : BufferSound s.holdViews := by
  obtain ⟨hlen, hok, hphase, hplace, hnodup⟩ := hs
  have hplaces : (s.heldCards.map s.cardView).map CardView.place = s.heldCards := by
    rw [List.map_map]
    exact List.map_id _
  refine ⟨hlen, hok, hphase, fun v hv => ?_, ?_⟩
  · rcases List.mem_append.1 hv with hv | hv
    · exact hplace v hv
    · obtain ⟨i, hi, rfl⟩ := List.mem_map.1 hv
      obtain ⟨-, ⟨f, hf, -⟩, -⟩ := (s.mem_heldCards i).1 hi
      exact (List.getElem?_eq_some_iff.1 hf).1
  · show ((s.cardViews ++ s.heldCards.map s.cardView).map CardView.place).Nodup
    rw [List.map_append, hplaces]
    refine List.nodup_append.2 ⟨hnodup, s.nodup_heldCards, fun i hi j hj hij => ?_⟩
    obtain ⟨v, hv, rfl⟩ := List.mem_map.1 hi
    exact ((s.mem_heldCards j).1 hj).2.2 v hv hij

/-- A phase is set for the frame at the head (R145). -/
theorem PortSound.setPhase {s : State} (hs : PortSound s) {f : Frame} {rest : List Frame} (hb : s.buffer = f :: rest) (p : Phase) :
    PortSound { s with phase := p } := by
  obtain ⟨hlen, hok, -, hplace, hnodup⟩ := hs.buffer
  exact ⟨⟨hlen, hok, fun _ => by rw [hb]; simp, hplace, hnodup⟩, hs.bypass, hs.timer, hs.silence, hs.ring⟩

/-- A cycle frame takes the pending role, which is none but MONITOR and ACTIVE, and works in operation (R142, R143). -/
theorem PortSound.cycled {s : State} (hs : PortSound s) {f : Frame} {rest : List Frame} (h : HandsCycle s f rest)
    (gapOrder : List Lane) (ticks : List Tick) :
    PortSound ((processCycle f gapOrder ticks s).state.sendHead (processCycle f gapOrder ticks s).frame) := by
  obtain ⟨⟨hpower, hrole⟩, hphase, hb⟩ := h
  have hp := port_processCycle f gapOrder ticks s
  have hbuffer : (processCycle f gapOrder ticks s).state.buffer = s.buffer := by simpa using congrArg State.buffer hp
  have hphase : (processCycle f gapOrder ticks s).state.phase = s.phase := by simpa using congrArg State.phase hp
  have hviews : (processCycle f gapOrder ticks s).state.cardViews = s.cardViews := by simpa using congrArg State.cardViews hp
  have htimer := congrArg State.timer hp
  have hring : (stepped f gapOrder ticks s).ring = s.ring := by simpa using congrArg State.ring (port_stepped f gapOrder ticks s)
  have hok : frameLengthOk f = true := hs.buffer.2.1 f (by simp [hb])
  refine PortSound.sendHead ⟨bufferSound_congr hs.buffer hbuffer hphase (by rw [hviews]), ?_, ?_, ?_, ?_⟩ _ ?_
  · obtain ⟨hdrive, hbypass, hpending⟩ := hs.bypass
    have hpower' : (processCycle f gapOrder ticks s).state.power = .running := by
      simpa [hpower] using congrArg State.power hp
    have hdrv : (processCycle f gapOrder ticks s).state.bypdrv = s.bypdrv := by simpa using congrArg State.bypdrv hp
    have haddr : (processCycle f gapOrder ticks s).state.nodeAddr = s.nodeAddr := by simpa using congrArg State.nodeAddr hp
    have hnone : (processCycle f gapOrder ticks s).state.pendingRole = none := by simpa using congrArg State.pendingRole hp
    have hrole' : (processCycle f gapOrder ticks s).state.role ≠ .bypass := by
      have hr : (processCycle f gapOrder ticks s).state.role = s.pendingRole.getD s.role := by simpa using congrArg State.role hp
      rw [hr]
      cases hq : s.pendingRole with
      | none => exact hrole
      | some r => exact fun hr => hpending (by rw [hq]; exact congrArg some hr)
    have hon := (onRing_eq_true_iff _).2 ⟨hpower', hrole'⟩
    have hon' := (onRing_eq_true_iff s).2 ⟨hpower, hrole⟩
    refine ⟨by rw [hdrv, hon]; simpa [hon'] using hdrive, fun _ => ?_, by rw [hnone]; simp⟩
    rw [haddr]
    exact ⟨fun h => absurd h hrole', fun h => absurd ((hbypass hpower).2 h) hrole⟩
  · simp only [State.timer_port] at htimer
    rw [htimer]
    exact hs.timer.frame _
  · exact hs.silence.processCycle f gapOrder ticks
  · exact (slotsWritten_processCycle f gapOrder ticks s).inRange (by rw [hring]; exact hs.ring)
  · exact fun _ _ _ => frameLengthOk_finishCycle _ _ hok

/-- An idle port: no frame, no view, every count 0 (R12, R129, R144, R146). -/
theorem portSound_idle {s : State} (hb : s.buffer = []) (hp : s.phase = .waiting) (hv : s.cardViews = [])
    (ht : s.timer = ⟨0, none, false⟩) (htrack : s.track = State.reset.track) (hr : s.ring = ⟨0, 0, 0, 0, 0⟩) (hd : BypassSound s) :
    PortSound s := by
  refine ⟨⟨by simp [hb], by simp [hb], by simp [hp], by simp [hv], by simp [hv]⟩, hd, ?_, fun l => ?_, ?_⟩
  · rw [ht]; exact ⟨by simp, by simp⟩
  · rw [htrack, track_reset]; exact ⟨by simp, by simp, by simp, by simp⟩
  · rw [hr]; simp [RingCounters.InRange]

/-- The straps give BYPASS exactly where they hold no node address, and the drive exactly where they hold one (R142). -/
theorem bypassSound_straps {s : State} {addr : BitVec 6} {high : Bool} (hp : s.power = .running) (ha : s.nodeAddr = addr)
    (hr : s.role = strapRole addr high) (hd : s.bypdrv = validAddress addr) (hn : s.pendingRole = none) : BypassSound s := by
  have hrole : strapRole addr high = .bypass ↔ validAddress addr = false := by
    unfold strapRole
    cases validAddress addr <;> cases high <;> simp
  refine ⟨?_, fun _ => by rw [hr, ha]; exact hrole, by rw [hn]; simp⟩
  rw [onRing_eq_true_iff, hd, ← Bool.not_eq_false, ← hrole, InOperation, hr]
  exact ⟨fun h => ⟨hp, h⟩, fun h => h.2⟩

/-- Out of operation the bypass drive is off (R142). -/
theorem bypassSound_off {s : State} (hp : s.power ≠ .running) (hd : s.bypdrv = false) (hn : s.pendingRole ≠ some .bypass) :
    BypassSound s := by
  refine ⟨?_, fun h => absurd h hp, hn⟩
  rw [onRing_eq_true_iff, hd]
  exact ⟨fun h => absurd h (by simp), fun h => absurd h.1 hp⟩

/-- Every command keeps the laws. -/
theorem PortSound.effect {s t : State} (hs : PortSound s) (h : Effect s t) : PortSound t := by
  cases h with
  | kept => exact hs
  | reset addr high => exact portSound_idle rfl rfl rfl rfl rfl rfl (bypassSound_straps (high := high) rfl rfl rfl rfl rfl)
  | halted => exact ⟨hs.buffer, bypassSound_off (by simp) rfl hs.bypass.2.2, hs.timer, hs.silence, hs.ring⟩
  | removed => exact portSound_idle rfl rfl rfl rfl rfl rfl (bypassSound_off (by simp) rfl (by simp [State.reset]))
  | arrived f h => exact hs.arrive f
  | departed f rest h hp hb => exact ⟨BufferSound.depart hs.buffer f rest hb _, hs.bypass, hs.timer, hs.silence, hs.ring⟩
  | rejected f rest cause h hp hb =>
    have hphase := hs.setPhase hb .sending
    exact ⟨hphase.buffer, hs.bypass, hs.timer, hs.silence, hs.ring.addCrcError⟩
  | taken f rest p h hp hb => exact hs.setPhase hb p
  | handedOn f rest h hp hb =>
    unfold State.handOnCycle
    split
    · exact hs.setPhase hb .cycle
    · exact PortSound.setPhase (s := s.holdViews) ⟨BufferSound.holdViews hs.buffer, hs.bypass, hs.timer, hs.silence, hs.ring⟩ hb .cycle
  | cycled f rest gapOrder ticks h => exact hs.cycled h gapOrder ticks
  | saturated h => exact ⟨hs.buffer, hs.bypass, ⟨le_rfl, hs.timer.2⟩, hs.silence, hs.ring⟩
  | converted raw h => exact hs.shrinks (s.shrinks_convert raw _)
  | faulted l h => exact hs.shrinks (s.shrinks_faultAfterStep l)
  | answered f g u hf hg hu =>
    refine (hs.served hu).sendHead g (fun x rest hx => frameLengthOk_answered ?_ hg)
    unfold State.handed at hf
    split at hf
    · exact hs.buffer.2.1 f (List.mem_of_mem_head? hf)
    · cases hf

theorem PortSound.tick {s : State} (hs : PortSound s) : PortSound s.tick := by
  unfold State.tick
  split
  · exact ⟨hs.buffer, hs.bypass, hs.timer.tick, hs.silence, hs.ring⟩
  · exact hs

end Sys2Proof.Machine

namespace Sys2Proof.Proofs

open Sys2Proof.Machine Sys2Proof.Safety

/-- Settles O60: no change of tracking touches the port but its counters, and every effect of a command keeps the laws. -/
theorem stepKeepsPortAndCounts : Obligations.StepKeepsPortAndCounts := by
  intro s t hs h
  rw [← portSound_iff] at hs ⊢
  exact step_leads_to PortSound PortSound (fun s q hs => ⟨hs.buffer, hs.bypass, hs.timer, hs.silence, hs.ring⟩) (fun s hs => hs.tick)
    (fun s t hs he => hs.effect he) hs h

end Sys2Proof.Proofs
end

section
/-! PROOFS. The Pitch Timer, the classes of frames and the reset state (R8, R9, R11, R12, R14). -/

namespace Sys2Proof.Proofs

open Sys2Proof.Machine Sys2Proof.Safety

/-! ## The Pitch Timer's count -/

/-- Settles O3: a step on an empty queue is a tick, and the count is a minimum with 65535. -/
theorem pitchCountRunsAndSaturates : Obligations.PitchCountRunsAndSaturates := by
  have hstep : ∀ s : State, s.pending = [] → step s = .next s.tick := fun s hq => by unfold step; rw [hq]
  refine ⟨fun s hq hi => ⟨min (s.timer.count + 1) 65535, ?_, fun h => by omega, fun h => by omega⟩, fun s hq hi => ?_, fun s hi => ?_⟩
  · rw [hstep s hq, State.tick, if_pos ((onRing_eq_true_iff s).2 hi)]
    rfl
  · rw [hstep s hq, State.tick, onRing_eq_false s hi]
    rfl
  · show execPitchCountSaturation s = _
    rw [execPitchCountSaturation, if_pos ((onRing_eq_true_iff s).2 hi)]

/-! ## The pitch average -/

/-- A quarter of the difference, cut off toward zero, moves the average up to a longer capture (R14). -/
theorem moved_up {p capture : Nat} (h : p ≤ capture) :
    ((p : Int) + ((capture : Int) - (p : Int)).tdiv 4).toNat = p + (capture - p) / 4 := by
  obtain ⟨d, rfl⟩ := Nat.exists_eq_add_of_le h
  have hd : ((p + d : Nat) : Int) - (p : Int) = (d : Nat) := by omega
  have ht : ((d : Nat) : Int).tdiv 4 = ((d / 4 : Nat) : Int) := (Int.ofNat_tdiv d 4).symm
  rw [hd, ht]
  omega

/-- It moves the average down to a shorter one. -/
theorem moved_down {p capture : Nat} (h : capture < p) :
    ((p : Int) + ((capture : Int) - (p : Int)).tdiv 4).toNat = p - (p - capture) / 4 := by
  obtain ⟨d, rfl⟩ := Nat.exists_eq_add_of_le h.le
  have hd : (capture : Int) - ((capture + d : Nat) : Int) = -((d : Nat) : Int) := by omega
  have ht : (-((d : Nat) : Int)).tdiv 4 = -((d / 4 : Nat) : Int) := by rw [Int.neg_tdiv]; exact congrArg _ (Int.ofNat_tdiv d 4).symm
  rw [hd, ht]
  omega

/-- Settles O12, case by case: no average yet, a capture folded in, a stall. -/
theorem pitchAverageFold : Obligations.PitchAverageFold := by
  intro t capture
  refine ⟨fun hn hc => ?_, fun hn hc => ?_, fun p hp hlow hhigh => ⟨fun h4 hc => ?_, fun h => ?_⟩⟩
  · simp only [PitchTimer.offer, hn, if_pos hc]
  · simp only [PitchTimer.offer, hn, hc, if_neg (Nat.lt_irrefl 65535)]
  · simp only [PitchTimer.offer, hp, if_pos (And.intro h4 hc)]
    congr 2
    split
    · next hle => rw [moved_up hle]; omega
    · next hlt => rw [moved_down (Nat.lt_of_not_le hlt)]; omega
  · have hno : ¬ (capture ≤ 4 * p ∧ capture < 65535) := by omega
    simp only [PitchTimer.offer, hp, if_neg hno]

/-! ## Classes and the reached test -/

/-- The distance of the statements is the difference of the indices (R9). -/
theorem indexDistance_eq (x k : Index) : indexDistance x k = (k - x).toNat := by
  have hx := x.isLt
  have hk := k.isLt
  rw [indexDistance, BitVec.toNat_sub]
  omega

/-- The index `n` after another stands at the distance `n` from it. -/
theorem indexDistance_add (x : Index) {n : Nat} (hn : n < 65536) : indexDistance x (x + BitVec.ofNat 16 n) = n := by
  rw [indexDistance_eq]
  have h : x + BitVec.ofNat 16 n - x = BitVec.ofNat 16 n := by ring
  rw [h, BitVec.toNat_ofNat, Nat.mod_eq_of_lt hn]

theorem reached_iff (x k : Index) : reached x k = true ↔ indexDistance x k < 32768 := by
  rw [indexDistance_eq, reached, decide_eq_true_iff]

/-- Settles O11: the step distance is the 16-bit difference, and the classes split it as R9 does. -/
theorem classesAndReachedTest : Obligations.ClassesAndReachedTest := by
  refine ⟨fun k => rfl, fun last k => ?_, reached_iff, fun x n hn => by rw [reached_iff, indexDistance_add x hn]⟩
  simp only [indexDistance_eq, classify]
  refine ⟨fun h => if_pos h, fun h => ?_, fun h => ?_, fun h => ?_⟩
  · rw [if_neg (by omega), if_pos h]
  · rw [if_neg (by omega), if_neg (by omega), if_pos h.2]
  · rw [if_neg (by omega), if_neg (by omega), if_neg (by omega)]

/-! ## The reset state -/

/-- At reset every card record is on the free list (R24). -/
theorem poolSound_reset : PoolSound State.reset := by decide +kernel

/-- At reset no entry is referred to, and none is VALID (R73). -/
theorem recipes_reset : RefsSound State.reset ∧ RecipesSound State.reset ∧ BatchSound State.reset := by decide +kernel

/-- Settles O4: the values are those written in `State.reset`; the laws of the lanes, the windows and the port hold there by their lemmas,
the others by evaluation. -/
theorem resetState : Obligations.ResetState := by
  obtain ⟨hlists, hidle, hblind, hstations, hslots⟩ := (lanesSound_iff _).1 lanesSound_reset
  obtain ⟨hweb, hgate⟩ := (windowed_iff _).1 windowed_reset
  have hport : PortSound State.reset := portSound_idle rfl rfl rfl rfl rfl rfl
    (bypassSound_straps (addr := Config.strapAddress) (high := true) rfl rfl (by decide +kernel) (by decide +kernel) rfl)
  obtain ⟨hbuffer, hbypass, hcounts⟩ := (portSound_iff _).1 hport
  obtain ⟨hrefs, hrecipes, hbatch⟩ := recipes_reset
  refine ⟨by decide, ⟨rfl, rfl, rfl, rfl, rfl, rfl, by decide +kernel, rfl⟩, ⟨by decide +kernel, rfl, rfl⟩, by decide +kernel,
    by decide +kernel, rfl, rfl, by decide +kernel, rfl, by decide +kernel, rfl, by decide +kernel, ?_⟩
  exact ⟨⟨poolSound_reset, hlists, hrefs, hidle, hblind, by decide +kernel, by decide +kernel⟩,
    ⟨hrecipes, hstations, hslots, hcounts, by decide +kernel, hbuffer, by decide +kernel⟩,
    by decide +kernel, hbypass, by decide +kernel, hbatch, hweb, hgate⟩

end Sys2Proof.Proofs
end

section
/-! PROOFS. The requests of the Station Map: SET_STATIONS and READ_STATIONS (R2, R6, R7). -/

namespace Sys2Proof.Proofs

open Sys2Proof.Machine Sys2Proof.Safety

/-! ## READ_STATIONS -/

theorem exec_readStations (s : State) : exec .readStations s = serve .readStations decideReadStations s := rfl

/-- READ_STATIONS leaves the state as it is, whatever its operand. -/
theorem decideReadStations_state (d : List Byte) (s : State) : (decideReadStations d s).state = s := by
  unfold decideReadStations
  split <;> rfl

/-- Settles O36: by the two cases of the operand, and by the map state. -/
theorem readStationsReturnsMap : Obligations.ReadStationsReturnsMap := by
  intro f rest s h
  have haddressed : byteAt f 1 ≠ 63 → exec .readStations s = .next (replied s f rest
      (decideReadStations (serviceData f) s).status (decideReadStations (serviceData f) s).data) := fun ha => by
    rw [exec_readStations, serve_addressed _ _ f rest s ⟨h, ha⟩ (by rw [decideReadStations_state]), decideReadStations_state]
  refine ⟨fun ha hz => ?_, fun ha hz => ?_, fun ha => serve_broadcast_read _ _ f rest s h ha rfl⟩
  · rw [haddressed ha, decideReadStations, if_pos hz]
    refine ⟨fun m hm => ?_, fun hm => ?_⟩
    · rw [State.map, hm]
      rfl
    · rw [State.map, hm]
      rfl
  · rw [haddressed ha, decideReadStations, if_neg (by simp [hz])]
    rfl

/-! ## SET_STATIONS -/

theorem exec_setStations (s : State) : exec .setStations s = serve .setStations decideSetStations s := rfl

theorem natAt_lt (d : List Byte) (i : Nat) : natAt d i < 256 := (byteAt d i).isLt

theorem nat16At_lt (d : List Byte) (i : Nat) : nat16At d i < 65536 := (word16 d i).isLt

/-- The Station Map of an operand is in range exactly when each of its fields is; the fields whose range is all that their bytes can hold
need no test (R2, R6). -/
theorem inRange_stationsOf (d : List Byte) : (stationsOf d).inRange = true ↔
    0 < natAt d 0 ∧ natAt d 0 < natAt d 1 ∧ natAt d 1 < natAt d 2 ∧ natAt d 2 < natAt d 3 ∧ natAt d 3 < natAt d 4 ∧ natAt d 4 ≤ 31 ∧
      1 ≤ natAt d 5 ∧ natAt d 5 ≤ 3 ∧ 1 ≤ natAt d 6 ∧ natAt d 6 ≤ 15 ∧ 32 ≤ natAt d 7 ∧ natAt d 7 ≤ 224 ∧ nat16At d 8 ≤ 2000 ∧
      1 ≤ natAt d 10 ∧ natAt d 10 ≤ natAt d 11 ∧ 100 ≤ nat16At d 12 := by
  have hmax : natAt d 11 ≤ 255 := Nat.le_of_lt_succ (natAt_lt d 11)
  have hpitch : nat16At d 12 ≤ 65535 := Nat.le_of_lt_succ (nat16At_lt d 12)
  simp only [StationMap.inRange, Bool.and_eq_true, decide_eq_true_eq, and_assoc]
  simp only [stationsOf, hmax, hpitch, true_and, and_true]

/-- A step of SET_STATIONS answers what `decideSetStations` decides. -/
theorem exec_setStations_addressed (f : Frame) (rest : List Frame) (s : State) (h : Serves s f rest .setStations) {a : Answer}
    (ha : decideSetStations (serviceData f) s = a) (hb : a.state.buffer = s.buffer) :
    exec .setStations s = .next (replied a.state f rest a.status a.data) := by
  subst ha
  rw [exec_setStations, serve_addressed _ _ f rest s h hb]

/-- Settles O41: by the three checks of `decideSetStations`, in their order. -/
theorem setStationsReplacesMap : Obligations.SetStationsReplacesMap := by
  intro f rest s h
  have hstate : ¬ (!s.allIdle || !s.gate.isEmpty) = true ↔ s.allIdle = true ∧ s.gate = [] := by simp
  refine ⟨fun hz => ?_, fun hz hb => ?_, fun hz hi hg hr => ?_, fun hz hi hg hr => ?_⟩
  · exact exec_setStations_addressed f rest s h (a := refuseFormat s) (by rw [decideSetStations, if_pos (by simp [hz])]) rfl
  · have hbusy : (!s.allIdle || !s.gate.isEmpty) = true := by
      by_contra hn
      obtain ⟨hi, hg⟩ := hstate.1 hn
      simp [hi, hg] at hb
    exact exec_setStations_addressed f rest s h (a := refuse .refusedState [] s)
      (by rw [decideSetStations, if_neg (by simp [hz]), if_pos hbusy]) rfl
  · have hout : (!(stationsOf (serviceData f)).inRange) = true := by
      simpa using fun hin => hr ((inRange_stationsOf _).1 hin)
    exact exec_setStations_addressed f rest s h (a := refuse .refusedRange [] s)
      (by rw [decideSetStations, if_neg (by simp [hz]), if_neg (hstate.2 ⟨hi, hg⟩), if_pos hout]) rfl
  · exact exec_setStations_addressed f rest s h
      (by rw [decideSetStations, if_neg (by simp [hz]), if_neg (hstate.2 ⟨hi, hg⟩),
        if_neg (by simp [(inRange_stationsOf _).2 hr])]) rfl

end Sys2Proof.Proofs
end

section
/-! PROOFS. Stage 6: what is planned for a card, and what planning changes (R86 to R102). -/

namespace Sys2Proof.Machine

open Sys2Proof.Safety

/-! ## The command planned for one card -/

/-- A card with reasons is skipped (R87, R89). -/
theorem planLoad_of_reasons (r : Recipe) {c : Card} (h : c.reasons ≠ []) : planLoad r c = (.load false c.serial 0 [], c) := if_neg h

theorem planCard_of_reasons {c : Card} (h : c.reasons ≠ []) : planCard c = (.card false c.serial 0, c) := if_neg h

/-- INSPECT needs a load result (R88). -/
theorem planInspect_of_none (r : Recipe) {c : Card} (h : c.loadResult = none) :
    planInspect r c = (.inspect false c.serial 0 0, c) := if_neg (by simp [h])

/-- The calculation is made for a card without reasons whose card is placed, and for no other (R91). -/
theorem planSeal_of_not_due (r : Recipe) (m : StationMap) (pitch : Nat) (zs : ZoneState) (z : Nat) {c : Card}
    (h : ¬ (c.reasons = [] ∧ c.placed = some true)) : planSeal r m pitch zs z c = (.sealing false c.serial 0 [], c) := if_neg h

/-- The reasons of a card that the calculation is made for: the one its outcome adds (R99). -/
theorem planSeal_of_due (r : Recipe) (m : StationMap) (pitch : Nat) (zs : ZoneState) (z : Nat) {c : Card}
    (hc : c.reasons = []) (hp : c.placed = some true) :
    let sr := sealRecord r m pitch zs z
    let c' := { c with sealRec := some sr, reasons := sr.outcome.reason.toList }
    planSeal r m pitch zs z c = if sr.outcome.strokes = true
      then (.sealing true c.serial sr.dwell (pressures m r), { c' with commanded := { c.commanded with sealing := true } })
      else (.sealing false c.serial 0 [], c') := by
  rw [planSeal, if_pos ⟨hc, hp⟩]
  generalize sealRecord r m pitch zs z = sr
  obtain ⟨_, _, _, outcome, _, _⟩ := sr
  obtain ⟨_, _, _, _, _, _, _, _, _, _, _, _, _, _⟩ := c
  subst hc
  cases outcome <;> rfl

/-! ## Planning at one station -/

/-- The change of a lane record that planning makes at one station (R86). -/
def planned (s : State) (l : Lane) (kind : Kind) (c : Card) (r : LaneRec) : LaneRec :=
  { r with
    web := r.web.map (fun x => if x.formed = c.formed then (s.planFor l kind x).2 else x)
    plan := r.plan.put kind (s.planFor l kind c).1 }

theorem State.updLane_updLane (s : State) (l : Lane) (f g : LaneRec → LaneRec) :
    (s.updLane l f).updLane l g = s.updLane l (fun r => g (f r)) := by
  simp [State.updLane, State.setLane, State.lane]

theorem planStation_of_none {s : State} {k : Index} {l : Lane} {kind : Kind} (h : s.cardAt l k (s.map.offset kind) = none) :
    s.planStation k l kind = s := by
  rw [State.planStation, h]

theorem planStation_of_some {s : State} {k : Index} {l : Lane} {kind : Kind} {c : Card}
    (h : s.cardAt l k (s.map.offset kind) = some c) : s.planStation k l kind = s.updLane l (planned s l kind c) := by
  rw [State.planStation, h]
  simp only [State.updCard, State.mapWeb, State.updLane_updLane]
  rfl

theorem LanePlan.get_put (p : LanePlan) (kind other : Kind) (cmd : Command) :
    (p.put kind cmd).get other = if other = kind then some cmd else p.get other := by
  cases kind <;> cases other <;> rfl

/-- A web list with one card formed at an index: it is found there. -/
theorem findFormed_append_cons {before after : List Card} {c : Card} {i : Index}
    (hne : ∀ x ∈ before ++ after, x.formed ≠ i) (hc : c.formed = i) : findFormed (before ++ c :: after) i = some c :=
  List.find?_eq_some_iff_append.2
    ⟨by simpa using hc, before, after, rfl, fun x hx => by simpa using hne x (List.mem_append_left _ hx)⟩

/-- A change at one formed index leaves the cards formed at others. -/
theorem map_formed_of_ne {web : List Card} {i : Index} (f : Card → Card) (h : ∀ x ∈ web, x.formed ≠ i) :
    web.map (fun x => if x.formed = i then f x else x) = web :=
  (List.map_congr_left fun x hx => if_neg (h x hx)).trans (List.map_id _)

theorem map_formed_append_cons {before after : List Card} {c : Card} {i : Index} (f : Card → Card)
    (hne : ∀ x ∈ before ++ after, x.formed ≠ i) (hc : c.formed = i) :
    (before ++ c :: after).map (fun x => if x.formed = i then f x else x) = before ++ f c :: after := by
  rw [List.map_append, List.map_cons, if_pos hc, map_formed_of_ne f fun x hx => hne x (List.mem_append_left _ hx),
    map_formed_of_ne f fun x hx => hne x (List.mem_append_right _ hx)]

end Sys2Proof.Machine

namespace Sys2Proof.Proofs

open Sys2Proof.Machine Sys2Proof.Safety

/-- Settles O28: the cases of the plans of one card, then one station, where a blank position is not found and the card found is the one
changed. -/
theorem stationsPlan : Obligations.StationsPlan := by
  refine ⟨fun k l s => by simp only [stage6, List.foldl_cons, List.foldl_nil],
    fun m s => ⟨rfl, fun h => by rw [State.map, h]; rfl⟩, fun p => rfl,
    fun s => ⟨fun h => by rw [State.pitch, h]; rfl, fun p h => by rw [State.pitch, h]; rfl⟩, fun r m pitch zs z => rfl,
    fun c r s h => by rw [State.recipeOf, Entry.fields, h]; rfl, fun l c s => ?_, fun k l kind s _ => ⟨fun h => ?_, ?_⟩⟩
  · intro r sr
    refine ⟨fun h => if_pos h, planLoad_of_reasons _, fun h => if_pos h, planInspect_of_none _, fun h => if_pos h,
      planCard_of_reasons, planSeal_of_not_due _ _ _ _ _, fun hc hp => ?_⟩
    have hdue : s.planFor l .sealing c = _ := planSeal_of_due r s.map s.pitch (s.zone l).state (s.zone l).z hc hp
    rw [hdue]
    refine ⟨fun h => ?_, fun h => ?_, fun hheat hwindow => ?_⟩
    · rw [show (sealRecord r s.map s.pitch (s.zone l).state (s.zone l).z).outcome = .noHeat from h]
      rfl
    · rw [show (sealRecord r s.map s.pitch (s.zone l).state (s.zone l).z).outcome = .noWindow from h]
      rfl
    · cases ho : sr.outcome with
      | noHeat => exact absurd ho hheat
      | noWindow => exact absurd ho hwindow
      | _ => rfl
  · exact planStation_of_none (List.find?_eq_none.2 fun c hc => by simpa using h c hc)
  · intro before after c hweb hne hc
    have hfound : s.cardAt l k (s.map.offset kind) = some c := by
      rw [State.cardAt, State.cardFormed, hweb]
      exact findFormed_append_cons hne hc
    rw [planStation_of_some hfound]
    simp only [State.lane_updLane_self]
    refine ⟨?_, (LanePlan.get_put _ _ _ _).trans (if_pos rfl),
      fun other ho => (LanePlan.get_put _ _ _ _).trans (if_neg ho), rfl,
      fun m hm => State.lane_updLane_ne s _ hm.symm, rfl⟩
    rw [planned, hweb]
    exact map_formed_append_cons _ (fun x hx => hc ▸ hne x hx) rfl

end Sys2Proof.Proofs
end

section
/-! PROOFS. A cycle frame completes: the bytes that leave with it, and the state that its work keeps (R13, R15, R132, R143, R145, R149, R150,
R152). -/

namespace Sys2Proof.Machine

open Sys2Proof.Safety

/-! ## What the slots keep of the state -/

theorem SlotsWritten.role {s t : State} (h : SlotsWritten s t) : t.role = s.role := by
  simpa using congrArg State.role h.port

theorem SlotsWritten.slotMap {s t : State} (h : SlotsWritten s t) : t.slotMap = s.slotMap := by
  simpa using congrArg State.slotMap h.port

/-- The slot number that the map gives a use is one whose entry holds it (R147). -/
theorem State.slotMap_slotOf {s : State} {u : SlotUse} {i : Fin 48} (h : s.slotOf u = some i.val) : s.slotMap[i] = u := by
  obtain ⟨_, hu, -⟩ := List.findIdx?_eq_some_iff_getElem.1 h
  simpa using hu

/-! ## What the slots keep of the frame -/

/-- The part may write slot `i`: its status slot, and in ACTIVE a command slot (R150, R152). -/
def SlotOurs (s : State) (i : Fin 48) : Prop :=
  s.slotMap[i] = .status ∨ (∃ kind l, s.slotMap[i] = .command kind l) ∧ s.role = .active

/-- Byte `n` of the frame belongs to no slot that the part may write, and not to the CRC. -/
def ByteKept (s : State) (f : Frame) (n : Nat) : Prop :=
  n + 2 < f.length ∧ ∀ i : Fin 48, SlotOurs s i → n < 8 + 16 * i ∨ 24 + 16 * i ≤ n

/-- The bytes of the header are kept (R152). -/
theorem byteKept_header {s : State} {f : Frame} (hf : 10 ≤ f.length) {n : Nat} (hn : n < 8) : ByteKept s f n :=
  ⟨by omega, fun i _ => .inl (by omega)⟩

/-- So are the bytes of a slot that is not the part's to write. -/
theorem byteKept_slot {s : State} {f : Frame} (hf : f.length = 10 + 16 * slotCount f) {i : Fin 48} (hi : i < slotCount f)
    (ho : ¬ SlotOurs s i) {j : Nat} (hj : j < 16) : ByteKept s f (8 + 16 * i + j) := by
  refine ⟨by omega, fun m hm => ?_⟩
  have hne : (m : Nat) ≠ i := fun e => ho (Fin.ext e ▸ hm)
  omega

/-- What the work on the slots of the frame `f` keeps, begun in the state `s`. -/
structure SlotsKept (s : State) (f : Frame) (w : Work) : Prop where
  state : SlotsWritten s w.state
  length : w.frame.length = f.length
  bytes : ∀ n, ByteKept s f n → byteAt w.frame n = byteAt f n

theorem SlotsKept.slotCount {s : State} {f : Frame} {w : Work} (h : SlotsKept s f w) (hf : 10 ≤ f.length) :
    slotCount w.frame = Machine.slotCount f :=
  congrArg BitVec.toNat (h.bytes 1 (byteKept_header hf (by decide)))

/-- Work that leaves the frame as it is. -/
theorem SlotsKept.state_only {s : State} {f : Frame} {w v : Work} (h : SlotsKept s f w) (hs : SlotsWritten w.state v.state)
    (hv : v.frame = w.frame) : SlotsKept s f v :=
  ⟨h.state.trans hs, by rw [hv, h.length], by rw [hv]; exact h.bytes⟩

/-- Work that writes one slot of the part. -/
theorem SlotsKept.putSlot {s : State} {f : Frame} {w v : Work} (h : SlotsKept s f w) (hf : f.length = 10 + 16 * Machine.slotCount f)
    (hs : SlotsWritten w.state v.state) {i : Fin 48} (hi : i < Machine.slotCount w.frame) (ho : SlotOurs s i) {tag : Byte}
    {addr : BitVec 6} {payload : List Byte} (hv : v.frame = putSlot w.frame i (makeSlot tag addr payload)) : SlotsKept s f v := by
  have hin : 8 + 16 * (i : Nat) + (makeSlot tag addr payload).length ≤ w.frame.length := by
    rw [length_makeSlot, h.length]
    rw [h.slotCount (by omega)] at hi
    omega
  refine ⟨h.state.trans hs, by rw [hv, Machine.putSlot, length_patch _ _ _ hin, h.length], fun n hn => ?_⟩
  have hout := hn.2 i ho
  rw [hv, Machine.putSlot, byteAt_patch_outside _ _ _ n hin (by rw [length_makeSlot]; omega), h.bytes n hn]

/-- Handling one entry of the Slot Map keeps what is not the part's to write (R150, R151). -/
theorem SlotsKept.commandSlot {s : State} {f : Frame} {w : Work} (h : SlotsKept s f w) (hf : f.length = 10 + 16 * Machine.slotCount f)
    (isRepeat : Bool) (i : Fin 48) : SlotsKept s f (commandSlot isRepeat w (s.slotMap[i], i.val)) := by
  have hs := slotsWritten_commandSlot isRepeat w (s.slotMap[i], i.val)
  rcases frame_commandSlot isRepeat w s.slotMap[i] i with hv | ⟨hcommand, hrole, hi, tag, payload, hv⟩
  · exact h.state_only hs hv
  · exact h.putSlot hf hs hi (.inr ⟨hcommand, h.state.role ▸ hrole⟩) hv

/-- So does the status slot (R152). -/
theorem SlotsKept.writeStatus {s : State} {f : Frame} {w : Work} (h : SlotsKept s f w) (hf : f.length = 10 + 16 * Machine.slotCount f) :
    SlotsKept s f (writeStatus w) := by
  rcases frame_writeStatus w with hv | ⟨i, payload, hmapped, hi, hv⟩
  · exact h.state_only (slotsWritten_writeStatus w) hv
  · have hstatus : w.state.slotMap[(⟨i, State.slotOf_lt hmapped⟩ : Fin 48)] = .status := State.slotMap_slotOf hmapped
    rw [h.state.slotMap] at hstatus
    exact h.putSlot hf (slotsWritten_writeStatus w) (i := ⟨i, State.slotOf_lt hmapped⟩) hi (.inl hstatus) hv

theorem SlotsKept.withCrc {s : State} {f : Frame} {w : Work} (h : SlotsKept s f w) (hf : 10 ≤ f.length) :
    SlotsKept s f { w with frame := withCrc w.frame } := by
  have hlen := h.length
  refine ⟨h.state, (length_withCrc _ (by omega)).trans hlen, fun n hn => ?_⟩
  have hbound := hn.1
  rw [← h.bytes n hn]
  exact byteAt_withCrc _ _ (by omega)

/-- The end of a cycle frame keeps every byte that is not the part's to write, and regenerates the CRC. -/
theorem slotsKept_finishCycle (isRepeat : Bool) {f : Frame} (s : State) (hf : f.length = 10 + 16 * slotCount f) :
    SlotsKept s f (finishCycle isRepeat f s) :=
  finishCycle_keeps_slots (SlotsKept s f) isRepeat f s ⟨.refl s, rfl, fun _ _ => rfl⟩ (fun _ i h => h.commandSlot hf isRepeat i)
    (fun _ h => h.writeStatus hf) (fun _ h => h.withCrc (by omega))

/-- The frame leaves with a good CRC (R152). -/
theorem crcGood_finishCycle (isRepeat : Bool) {f : Frame} (s : State) (hf : f.length = 10 + 16 * slotCount f) :
    crcGood (finishCycle isRepeat f s).frame = true := by
  have hlen := (slotsKept_finishCycle isRepeat s hf).length
  unfold finishCycle at hlen ⊢
  simp only at hlen ⊢
  refine crcGood_withCrc _ ?_
  simp only [Machine.withCrc, frameBody, List.length_append, List.length_take, bytes16, List.length_cons, List.length_nil] at hlen
  omega

/-! ## The bytes of a slot -/

theorem slotBytes_eq_map (f : Frame) (i : Nat) :
    slotBytes f i = (List.range (min 16 (f.length - (8 + 16 * i)))).map (fun j => byteAt f (8 + 16 * i + j)) := by
  refine List.ext_getElem (by simp [slotBytes]) (fun j h1 h2 => ?_)
  simp only [slotBytes, List.length_take, List.length_drop] at h1
  simp [slotBytes, byteAt, List.getD_eq_getElem?_getD, List.getElem?_eq_getElem (show 8 + 16 * i + j < f.length by omega)]

/-- A slot whose bytes are those of another frame of the same length is that frame's slot. -/
theorem slotBytes_congr {f g : Frame} {i : Nat} (hl : g.length = f.length)
    (h : ∀ j < 16, byteAt g (8 + 16 * i + j) = byteAt f (8 + 16 * i + j)) : slotBytes g i = slotBytes f i := by
  rw [slotBytes_eq_map, slotBytes_eq_map, hl]
  refine List.map_congr_left (fun j hj => h j ?_)
  have := List.mem_range.1 hj
  omega

/-! ## A good cycle frame handed on -/

/-- The state in which the frame worked on stands at the head of the buffer, ready to be sent (R145). -/
def completed (w : Work) (rest : List Frame) : State := { w.state with buffer := w.frame :: rest, phase := .sending }

theorem exec_cycleFrame_handed {f : Frame} {rest : List Frame} {s : State} (gapOrder : List Lane) (ticks : List Tick)
    (h : HandsCycle s f rest) : exec (.cycleFrame gapOrder ticks) s = .next (completed (processCycle f gapOrder ticks s) rest) := by
  obtain ⟨hi, hp, hb⟩ := h
  have hbuffer : (processCycle f gapOrder ticks s).state.buffer = f :: rest := by
    simpa [hb] using congrArg State.buffer (port_processCycle f gapOrder ticks s)
  show execCycleFrame gapOrder ticks s = _
  simp only [execCycleFrame, if_pos (And.intro ((onRing_eq_true_iff s).2 hi) hp), hb, sendHead_cons _ _ _ _ hbuffer, completed]

/-- A bank with the same entries but for their reference counts holds the same recipes. -/
theorem recipe_of_map_restart {v w : Vector Entry 16} (h : v.map Entry.restart = w.map Entry.restart) (n : EntryNo) :
    v[n].recipe = w[n].recipe := by
  have hn := congrArg (fun u : Vector Entry 16 => u[n].recipe) h
  simpa [Entry.restart] using hn

/-- A cycle frame's work leaves the recipes. -/
theorem recipe_processCycle (f : Frame) (gapOrder : List Lane) (ticks : List Tick) (s : State) (b : Bank) (n : EntryNo) :
    ((processCycle f gapOrder ticks s).state.entry b n).recipe = (s.entry b n).recipe := by
  have hport := port_processCycle f gapOrder ticks s
  cases b with
  | A => exact recipe_of_map_restart (congrArg State.bankA hport) n
  | B => exact recipe_of_map_restart (congrArg State.bankB hport) n

/-! ## The Pitch Timer -/

theorem PitchTimer.count_frame (cls : FrameClass) (t : PitchTimer) : (t.frame cls).count = 0 := by cases cls <;> rfl

/-- A frame of any class but NEXT clears the stall flag and keeps the average (R15). -/
theorem PitchTimer.frame_of_ne_next {cls : FrameClass} (t : PitchTimer) (h : cls ≠ .next) :
    t.frame cls = { t with count := 0, stall := false } := by
  cases cls with
  | next => exact absurd rfl h
  | _ => rfl

/-- The class NEXT is that of step distance 1 (R9). -/
theorem classify_eq_next (last : Option Index) (k : Index) : classify last k = .next ↔ ∃ l, last = some l ∧ indexDistance l k = 1 := by
  cases last with
  | none => simp [classify]
  | some l =>
    simp only [Option.some.injEq, exists_eq_left', Proofs.indexDistance_eq, classify]
    split
    · next h => simp [h]
    · split
      · next h => simp [h]
      · next h => simp only [h, iff_false]; split <;> simp

end Sys2Proof.Machine

namespace Sys2Proof.Proofs

open Sys2Proof.Machine Sys2Proof.Safety

/-- Settles O13: the slots keep the bytes that are not the part's to write, and the work before them keeps the port but for the timer, the
roles and the last index. -/
theorem cycleFrameCompletes : Obligations.CycleFrameCompletes := by
  refine ⟨fun f => ⟨rfl, rfl, slotBytes_eq_map f⟩, fun f rest gapOrder ticks s hc _ _ hf => ?_, fun f rest gapOrder ticks s hc => ?_⟩
  · have hport := port_processCycle f gapOrder ticks s
    have hslots : (stepped f gapOrder ticks s).slotMap = s.slotMap := by
      simpa using congrArg State.slotMap (port_stepped f gapOrder ticks s)
    have hring : (stepped f gapOrder ticks s).ring = s.ring := by
      simpa using congrArg State.ring (port_stepped f gapOrder ticks s)
    have hkept : SlotsKept (stepped f gapOrder ticks s) f (processCycle f gapOrder ticks s) :=
      slotsKept_finishCycle _ (stepped f gapOrder ticks s) hf
    have hcrc : crcGood (processCycle f gapOrder ticks s).frame = true := crcGood_finishCycle _ (stepped f gapOrder ticks s) hf
    have hrecipe := recipe_processCycle f gapOrder ticks s
    have hexec := exec_cycleFrame_handed gapOrder ticks hc
    generalize processCycle f gapOrder ticks s = w at hport hkept hcrc hrecipe hexec
    have hslot : ∀ i : Fin 48, i < slotCount f → ¬ SlotOurs (stepped f gapOrder ticks s) i → slotBytes w.frame i = slotBytes f i :=
      fun i hi ho => slotBytes_congr hkept.length (fun j hj => hkept.bytes _ (byteKept_slot hf hi ho hj))
    refine ⟨completed w rest, w.frame, hexec, rfl, rfl, hkept.length, hcrc,
      fun i hi => hkept.bytes i (byteKept_header (by omega) hi), fun i hi hcmd hst => hslot i hi ?_,
      fun hmon i hi hst => hslot i hi ?_, by simpa [completed] using congrArg State.lastIndex hport,
      by simpa [completed] using congrArg State.role hport, by simpa [completed] using congrArg State.pendingRole hport,
      ⟨by simpa [completed] using congrArg State.power hport, by simpa [completed] using congrArg State.bypdrv hport,
        by simpa [completed] using congrArg State.nodeAddr hport, by simpa [completed] using congrArg State.cardViews hport,
        by simpa [completed] using congrArg State.ringOut hport, by simpa [completed] using congrArg State.slotMap hport,
        by simpa [completed] using congrArg State.stations hport, ?_, ?_⟩, hrecipe⟩
    · rw [SlotOurs, hslots]
      rintro (h | ⟨⟨kind, l, h⟩, -⟩)
      · exact hst h
      · exact hcmd kind l h
    · rw [SlotOurs, hslots, ← hkept.state.role]
      rintro (h | ⟨-, h⟩)
      · exact hst h
      · exact Role.noConfusion (hmon.symm.trans h)
    · rw [← hring]
      exact hkept.state.discarded
    · rw [← hring]
      exact hkept.state.crcErrors
  · have htimer : (processCycle f gapOrder ticks s).state.timer = s.timer.frame (classify s.lastIndex (frameIndex f)) := by
      simpa using congrArg State.timer (port_processCycle f gapOrder ticks s)
    have hexec := exec_cycleFrame_handed gapOrder ticks hc
    generalize processCycle f gapOrder ticks s = w at htimer hexec
    have ht : (completed w rest).timer = s.timer.frame (classify s.lastIndex (frameIndex f)) := htimer
    refine ⟨completed w rest, hexec, ?_, fun last hl hd => ?_, fun hd => ?_⟩
    · rw [ht, PitchTimer.count_frame]
    · rw [ht, (classify_eq_next _ _).2 ⟨last, hl, hd⟩]
      exact ⟨rfl, rfl⟩
    · have hne : classify s.lastIndex (frameIndex f) ≠ .next := fun he => by
        obtain ⟨last, hl, h1⟩ := (classify_eq_next _ _).1 he
        exact hd last hl h1
      rw [ht, PitchTimer.frame_of_ne_next _ hne]
      exact ⟨rfl, rfl⟩

end Sys2Proof.Proofs
end

section
/-! PROOFS. Taking cards off their lists: what counting and freeing them one after another does to the free list, the entries and the lane
records, said once for gate expiry, the gap, retirement and lost track (R27, R123, R135, R136, R139). -/

namespace Sys2Proof.Machine

open Sys2Proof.Safety

/-! ## Cards counted and freed -/

/-- Count and free cards one after another, each in the lane that `place` gives it (R27). -/
def State.release (s : State) (place : Card → Lane) (count : Card → LaneRec → LaneRec) (cs : List Card) : State :=
  cs.foldl (fun t c => (t.updLane (place c) (count c)).freeRecord c) s

/-- The gate list replaced. -/
def State.withGate (s : State) (gate : List Card) : State := { s with gate := gate }

@[simp] theorem State.withGate_gate (s : State) (gate : List Card) : (s.withGate gate).gate = gate := rfl
@[simp] theorem State.withGate_free (s : State) (gate : List Card) : (s.withGate gate).free = s.free := rfl
@[simp] theorem State.lane_withGate (s : State) (gate : List Card) (l : Lane) : (s.withGate gate).lane l = s.lane l := rfl
@[simp] theorem State.entry_withGate (s : State) (gate : List Card) (b : Bank) (n : EntryNo) :
    (s.withGate gate).entry b n = s.entry b n := by cases b <;> rfl
@[simp] theorem State.withGate_self (s : State) : s.withGate s.gate = s := rfl
@[simp] theorem State.withGate_withGate (s : State) (g gate : List Card) : (s.withGate g).withGate gate = s.withGate gate := rfl
theorem State.updLane_withGate (s : State) (gate : List Card) (l : Lane) (f : LaneRec → LaneRec) :
    (s.withGate gate).updLane l f = (s.updLane l f).withGate gate := rfl
theorem State.freeRecord_withGate (s : State) (gate : List Card) (c : Card) :
    (s.withGate gate).freeRecord c = (s.freeRecord c).withGate gate := by
  unfold State.freeRecord State.updRefs State.setEntry
  cases c.bank <;> rfl

theorem State.removeGate_eq (s : State) (p : Card → Bool) (count : Card → LaneRec → LaneRec) :
    s.removeGate p count = (s.withGate (s.gate.filter (fun c => !p c))).release Card.lane count (s.gate.filter p) := rfl

theorem State.retireWeb_eq (s : State) (k : Index) (l : Lane) :
    s.retireWeb k l =
      (s.updLane l (fun r => { r with web := (s.lane l).web.dropWhile (retiredAt s.map.e k) })).release (fun _ => l)
        (fun c => LaneRec.countRejected c.retire) ((s.lane l).web.takeWhile (retiredAt s.map.e k)) := rfl

theorem State.loseWeb_eq (s : State) (l : Lane) :
    s.loseWeb l =
      (s.updLane l (fun r => { r with web := [] })).release (fun _ => l) (fun _ => LaneRec.bump 16 1) (s.lane l).web := rfl

theorem State.release_cons (s : State) (place : Card → Lane) (count : Card → LaneRec → LaneRec) (c : Card) (cs : List Card) :
    s.release place count (c :: cs) = ((s.updLane (place c) (count c)).freeRecord c).release place count cs := rfl

/-- The records join the tail of the free list in the order of the cards (R27). -/
@[simp] theorem State.release_free (s : State) (place : Card → Lane) (count : Card → LaneRec → LaneRec) (cs : List Card) :
    (s.release place count cs).free = s.free ++ cs.map Card.record := by
  induction cs generalizing s with
  | nil => simp [State.release]
  | cons c cs ih => simp [State.release_cons, ih]

@[simp] theorem State.release_gate (s : State) (place : Card → Lane) (count : Card → LaneRec → LaneRec) (cs : List Card) :
    (s.release place count cs).gate = s.gate :=
  foldl_keeps (fun t : State => t.gate = s.gate) _ cs s rfl (fun t c _ ht => by simpa using ht)

/-- A lane record after cards were counted and freed: the lane's own cards are counted in it, in their order. -/
theorem State.lane_release (s : State) (place : Card → Lane) (count : Card → LaneRec → LaneRec) (cs : List Card) (m : Lane) :
    (s.release place count cs).lane m = (cs.filter (fun c => place c = m)).foldl (fun r c => count c r) (s.lane m) := by
  induction cs generalizing s with
  | nil => rfl
  | cons c cs ih =>
    rw [State.release_cons, ih, State.lane_freeRecord, State.lane_updLane, List.filter_cons]
    by_cases h : place c = m
    · simp [h]
    · simp [h]

/-- Cards of one lane are counted in it, and in no other. -/
theorem State.lane_release_self (s : State) {place : Card → Lane} (count : Card → LaneRec → LaneRec) {cs : List Card} {l : Lane}
    (h : ∀ c ∈ cs, place c = l) : (s.release place count cs).lane l = cs.foldl (fun r c => count c r) (s.lane l) := by
  rw [State.lane_release, List.filter_eq_self.2 fun c hc => by simpa using h c hc]

theorem State.lane_release_ne (s : State) {place : Card → Lane} (count : Card → LaneRec → LaneRec) {cs : List Card} {l m : Lane}
    (h : ∀ c ∈ cs, place c = l) (hm : l ≠ m) : (s.release place count cs).lane m = s.lane m := by
  rw [State.lane_release, List.filter_eq_nil_iff.2 fun c hc => by simpa [h c hc] using hm]
  rfl

/-- Every card freed lowers the reference count of its entry (R27, R62). -/
theorem State.entry_release (s : State) (place : Card → Lane) (count : Card → LaneRec → LaneRec) (cs : List Card) (b : Bank)
    (n : EntryNo) :
    (s.release place count cs).entry b n =
      { s.entry b n with refs := (s.entry b n).refs - cs.countP (fun c => c.bank = b ∧ c.entry = n) } := by
  induction cs generalizing s with
  | nil => rfl
  | cons c cs ih =>
    rw [State.release_cons, ih, State.entry_freeRecord, State.entry_updLane, List.countP_cons]
    by_cases h : c.bank = b ∧ c.entry = n
    · simp only [h, and_self, if_true, decide_true, Nat.sub_sub, Nat.add_comm]
    · simp only [h, if_false, decide_false, Bool.false_eq_true, Nat.add_zero]

/-! ## The counters of counted cards -/

/-- Counting cards one after another adds up what each adds. -/
theorem LaneRec.counters_foldl {count : Card → LaneRec → LaneRec} {adds : Card → Counter} {j : Fin 21}
    (h : ∀ c r, (count c r).counters[j] = r.counters[j] + adds c) (cs : List Card) (r : LaneRec) :
    (cs.foldl (fun r c => count c r) r).counters[j] = r.counters[j] + (cs.map adds).sum := by
  induction cs generalizing r with
  | nil => simp
  | cons c cs ih => rw [List.foldl_cons, ih, h, List.map_cons, List.sum_cons, BitVec.add_assoc]

/-- Adding 1 for each card of a kind adds their number, modulo 2^32 (R130). -/
theorem sum_map_one (p : Card → Prop) [DecidablePred p] (cs : List Card) :
    (cs.map (fun c => if p c then (1 : Counter) else 0)).sum = BitVec.ofNat 32 (cs.countP (fun c => p c)) := by
  induction cs with
  | nil => rfl
  | cons c cs ih =>
    rw [List.map_cons, List.sum_cons, ih, List.countP_cons]
    by_cases h : p c
    · simp [h, BitVec.ofNat_add, BitVec.add_comm]
    · simp [h]

/-- The counters are all that counting cards changes of a lane record, where they are all that counting one changes. -/
theorem LaneRec.foldl_frame {count : Card → LaneRec → LaneRec}
    (h : ∀ c r, count c r = { r with counters := (count c r).counters }) (cs : List Card) (r : LaneRec) :
    cs.foldl (fun r c => count c r) r = { r with counters := (cs.foldl (fun r c => count c r) r).counters } :=
  foldl_keeps (fun q : LaneRec => q = { r with counters := q.counters }) _ cs r rfl
    (fun q c _ hq => by rw [h c q]; exact congrArg (fun u : LaneRec => { u with counters := (count c q).counters }) hq)

end Sys2Proof.Machine
end

section
/-! PROOFS. The Tracking Store's books: every card record is on one list, no reason is twice in a card, and the rejected counter is the sum of
the per-reason counters (R21, R23, R130, R131). What each operation of the tracking does to the lists and the counters is said once, for
all three laws. -/

namespace Sys2Proof.Machine

open Sys2Proof.Safety

/-! ## The pool of records -/

/-- The record numbers of cards, in any order. -/
def recordsOf (cs : List Card) : Multiset RecordNo := (cs.map Card.record : List RecordNo)

@[simp] theorem recordsOf_nil : recordsOf [] = 0 := rfl
@[simp] theorem recordsOf_cons (c : Card) (cs : List Card) : recordsOf (c :: cs) = {c.record} + recordsOf cs := by
  simp [recordsOf]
@[simp] theorem recordsOf_append (cs ds : List Card) : recordsOf (cs ++ ds) = recordsOf cs + recordsOf ds := by
  simp [recordsOf]

/-- Changing cards in anything but their record numbers changes no record number. -/
theorem recordsOf_map {f : Card → Card} (h : ∀ c, (f c).record = c.record) (cs : List Card) : recordsOf (cs.map f) = recordsOf cs := by
  simp only [recordsOf, List.map_map, Function.comp_def, h]

theorem recordsOf_filter (p : Card → Bool) (cs : List Card) :
    recordsOf (cs.filter (fun c => !p c)) + recordsOf (cs.filter p) = recordsOf cs := by
  simp only [recordsOf, Multiset.coe_add, ← List.map_append]
  exact Multiset.coe_eq_coe.2 ((List.perm_append_comm.trans (List.filter_append_perm p cs)).map _)

/-- The record numbers on all the lists together (R23). -/
def State.pool (s : State) : Multiset RecordNo :=
  (s.free : Multiset RecordNo) + recordsOf s.gate + ∑ l : Lane, recordsOf (s.lane l).web

theorem poolSound_iff (s : State) : PoolSound s ↔ s.pool = (List.finRange 256 : Multiset RecordNo) := by
  have h : s.pool = ((s.free ++ s.inUse.map Card.record : List RecordNo) : Multiset RecordNo) := by
    have hwebs : ∀ ls : List Lane, recordsOf (ls.flatMap (fun l => (s.lane l).web)) = (ls.map (fun l => recordsOf (s.lane l).web)).sum := by
      intro ls
      induction ls with
      | nil => rfl
      | cons l ls ih => rw [List.flatMap_cons, recordsOf_append, ih, List.map_cons, List.sum_cons]
    rw [← Multiset.coe_add]
    show _ = _ + recordsOf s.inUse
    rw [State.inUse, recordsOf_append, hwebs, State.pool, add_assoc, ← List.ofFn_eq_map, List.sum_ofFn]
  rw [h, Multiset.coe_eq_coe]

/-- Records of a lane's web list come and go as its record is replaced. -/
theorem State.pool_setLane (s : State) (l : Lane) (r : LaneRec) :
    (s.setLane l r).pool + recordsOf (s.lane l).web = s.pool + recordsOf r.web := by
  have hsum : (∑ m : Lane, recordsOf ((s.setLane l r).lane m).web) + recordsOf (s.lane l).web =
      (∑ m : Lane, recordsOf (s.lane m).web) + recordsOf r.web := by
    rw [← Finset.add_sum_erase _ _ (Finset.mem_univ l), ← Finset.add_sum_erase Finset.univ (fun m => recordsOf (s.lane m).web)
      (Finset.mem_univ l), State.lane_setLane_self,
      Finset.sum_congr rfl (fun m hm => by rw [s.lane_setLane_ne r (Finset.ne_of_mem_erase hm).symm])]
    abel
  simp only [State.pool, State.setLane_free, State.setLane_gate]
  rw [add_assoc, hsum, ← add_assoc]

/-- A change of a lane that keeps the records on its web list keeps the pool. -/
theorem State.pool_updLane_same (s : State) (l : Lane) (f : LaneRec → LaneRec)
    (h : recordsOf (f (s.lane l)).web = recordsOf (s.lane l).web) : (s.updLane l f).pool = s.pool := by
  have hpool := s.pool_setLane l (f (s.lane l))
  rw [h] at hpool
  exact add_right_cancel hpool

/-- Records of the gate list come and go as it is replaced. -/
theorem State.pool_withGate (s : State) (gate : List Card) :
    (s.withGate gate).pool + recordsOf s.gate = s.pool + recordsOf gate := by
  simp only [State.pool, State.withGate_free, State.withGate_gate, State.lane_withGate]
  abel

/-- A record freed joins the pool again (R27). -/
theorem State.pool_freeRecord (s : State) (c : Card) : (s.freeRecord c).pool = s.pool + {c.record} := by
  simp only [State.pool, State.freeRecord_free, State.freeRecord_gate, State.lane_freeRecord, ← Multiset.coe_add, Multiset.coe_singleton]
  abel

theorem State.pool_release (s : State) (place : Card → Lane) {count : Card → LaneRec → LaneRec} (h : ∀ c r, (count c r).web = r.web)
    (cs : List Card) : (s.release place count cs).pool = s.pool + recordsOf cs := by
  induction cs generalizing s with
  | nil => simp [State.release]
  | cons c cs ih =>
    rw [State.release_cons, ih, State.pool_freeRecord, State.pool_updLane_same _ _ _ (by rw [h]), recordsOf_cons, add_assoc]

/-- The pool is read off the free list, the gate list and the web lists alone. -/
theorem State.pool_congr {s t : State} (hf : t.free = s.free) (hg : t.gate = s.gate) (hw : ∀ l, (t.lane l).web = (s.lane l).web) :
    t.pool = s.pool := by
  simp only [State.pool, hf, hg, hw]

/-! ## The rejected counter -/

/-- The rejected counter is the sum of the per-reason counters (R131). -/
def LaneRec.Balanced (r : LaneRec) : Prop := r.counters[2] = reasonSum r

/-- The numbers of the thirteen per-reason counters (R130). -/
def reasonCounters : List (Fin 21) := [3, 4, 5, 6, 7, 8, 9, 10, 11, 12, 13, 14, 15]

theorem reasonSum_eq (r : LaneRec) : reasonSum r = (reasonCounters.map (fun j => r.counters[j])).sum := by
  have hplace : ∀ i (hi : i < 13), (reasonCounters[i]'hi).val = 3 + i := by decide
  have h : (r.counters.toList.drop 3).take 13 = reasonCounters.map (fun j => r.counters[j]) := by
    refine List.ext_getElem (by simp [reasonCounters]) (fun i _ hi => ?_)
    have hlt : i < 13 := by simpa [reasonCounters] using hi
    simp only [List.getElem_take, List.getElem_drop, List.getElem_map, Vector.getElem_toList]
    exact getElem_congr_idx (hplace i hlt).symm
  rw [reasonSum, h, ← List.sum_eq_foldl]

theorem LaneRec.balanced_congr {r q : LaneRec} (h : q.counters = r.counters) (hr : r.Balanced) : q.Balanced := by
  unfold LaneRec.Balanced reasonSum
  rw [h]
  exact hr

/-- A counter that is neither the rejected one nor a reason's is bumped. -/
theorem LaneRec.Balanced.bump {r : LaneRec} (hr : r.Balanced) {i : Fin 21} (h2 : i ≠ 2) (hi : i ∉ reasonCounters) (n : Nat) :
    (r.bump i n).Balanced := by
  have hsame : ∀ j, i ≠ j → (r.bump i n).counters[j] = r.counters[j] := fun j hj => by
    rw [LaneRec.counters_bump, if_neg hj]
    exact BitVec.add_zero _
  have hsum : reasonSum (r.bump i n) = reasonSum r := by
    rw [reasonSum_eq, reasonSum_eq]
    exact congrArg List.sum (List.map_congr_left fun j hj => hsame j (fun e => hi (e ▸ hj)))
  exact (hsame 2 h2).trans (hr.trans hsum.symm)

/-- A rejected card is counted in its lane and under its first reason, so it must have one (R121, R130). -/
theorem LaneRec.Balanced.countRejected {r : LaneRec} (hr : r.Balanced) {c : Card} (hc : c.reasons ≠ []) :
    (r.countRejected c).Balanced := by
  obtain ⟨why, rest, hwhy⟩ := List.exists_cons_of_ne_nil hc
  have hfirst : c.firstReason = some why := by rw [Card.firstReason, hwhy]; rfl
  have hone : (reasonCounters.map (fun j => if why.counter = j then (1 : Counter) else 0)).sum = 1 := by
    cases why <;> rfl
  have hsum : reasonSum (r.countRejected c) = reasonSum r + 1 := by
    rw [reasonSum_eq, reasonSum_eq, ← hone, ← List.sum_map_add]
    refine congrArg List.sum (List.map_congr_left fun j hj => ?_)
    have h2 : j ≠ 2 := fun e => by subst e; revert hj; decide
    rw [LaneRec.counters_countRejected, if_neg h2, hfirst]
    simp
  have htwo : (r.countRejected c).counters[2] = r.counters[2] + 1 := by
    have h := LaneRec.counters_countRejected c r 2
    have hne : why.counter ≠ 2 := by cases why <;> decide
    simpa [hfirst, hne] using h
  exact htwo.trans ((congrArg (· + 1) hr).trans hsum.symm)

end Sys2Proof.Machine
end

section
/-! PROOFS. What keeps the books of the Tracking Store: the laws of the pool, of the reason sets and of the rejected counter as one relation of two
states, and the operations on lane records, on cards and on the lists that keep it (R21, R23, R27, R130, R131). -/

namespace Sys2Proof.Machine

open Sys2Proof.Safety

/-! ## The books -/

/-- Every gate list entry has a reason (R130). -/
def GateReasoned (s : State) : Prop := ∀ c ∈ s.gate, c.reasons ≠ []

/-- What an operation of the tracking keeps of the books: the pool, the reason sets, the gate entries' reasons and the rejected counters.
The last needs that a gate entry has a reason under which it can be counted. -/
structure State.Accounts (s t : State) : Prop where
  pool : PoolSound s → PoolSound t
  reasons : ReasonsSound s → ReasonsSound t
  gate : GateReasoned s → GateReasoned t
  rejected : GateReasoned s → RejectedSound s → RejectedSound t

theorem State.Accounts.refl (s : State) : s.Accounts s := ⟨id, id, id, fun _ => id⟩

theorem State.Accounts.trans {s t u : State} (h : s.Accounts t) (g : t.Accounts u) : s.Accounts u :=
  ⟨g.pool ∘ h.pool, g.reasons ∘ h.reasons, g.gate ∘ h.gate, fun hg hr => g.rejected (h.gate hg) (h.rejected hg hr)⟩

theorem State.mem_inUse (s : State) (c : Card) : c ∈ s.inUse ↔ c ∈ s.gate ∨ ∃ l, c ∈ (s.lane l).web := by
  simp [State.inUse]

/-- With the lists and the counters as they were, the books are as they were. -/
theorem State.Accounts.of_same {s t : State} (hf : t.free = s.free) (hg : t.gate = s.gate) (hw : ∀ l, (t.lane l).web = (s.lane l).web)
    (hc : ∀ l, (t.lane l).counters = (s.lane l).counters) : s.Accounts t where
  pool h := by rwa [poolSound_iff, State.pool_congr hf hg hw, ← poolSound_iff]
  reasons h c hc := h c (by rw [State.mem_inUse] at hc ⊢; simpa only [hg, hw] using hc)
  gate h c hc := h c (by rwa [← hg])
  rejected _ h l := LaneRec.balanced_congr (hc l) (h l)

/-- The books are read off the free list, the gate list and the lane records alone. -/
theorem State.Accounts.of_lanes {s t : State} (hf : t.free = s.free) (hg : t.gate = s.gate) (hl : ∀ l, t.lane l = s.lane l) :
    s.Accounts t := .of_same hf hg (fun l => by rw [hl]) (fun l => by rw [hl])

/-- What keeps the books at every turn keeps them in all. -/
theorem State.accounts_foldl {α : Type} (f : State → α → State) (xs : List α) (s : State) (h : ∀ (t : State), ∀ a ∈ xs, t.Accounts (f t a)) :
    s.Accounts (xs.foldl f s) :=
  foldl_keeps (s.Accounts ·) f xs s (.refl s) (fun t a ha ht => ht.trans (h t a ha))

theorem State.accounts_eachLane (f : Lane → State → State) (s : State) (h : ∀ l (t : State), t.Accounts (f l t)) :
    s.Accounts (s.eachLane f) := s.accounts_foldl _ _ (fun t l _ => h l t)

/-- A lane record is changed, with no card on its web list changed and its counters in balance. -/
theorem State.accounts_setLane (s : State) (l : Lane) (r : LaneRec) (hw : r.web = (s.lane l).web)
    (hb : (s.lane l).Balanced → r.Balanced) : s.Accounts (s.setLane l r) where
  pool h := by
    have hpool : (s.setLane l r).pool = s.pool := s.pool_updLane_same l (fun _ => r) (by rw [hw])
    rwa [poolSound_iff, hpool, ← poolSound_iff]
  reasons h c hc := by
    have hweb : ∀ m, ((s.setLane l r).lane m).web = (s.lane m).web := fun m => by
      rw [State.lane_setLane]
      split
      · next hm => rw [hw, hm]
      · rfl
    exact h c (by rw [State.mem_inUse] at hc ⊢; simpa only [hweb, State.setLane_gate] using hc)
  gate h := h
  rejected _ h m := by
    rw [State.lane_setLane]
    split
    · exact hb (h l)
    · exact h m

theorem State.accounts_updLane (s : State) (l : Lane) (f : LaneRec → LaneRec) (hw : ∀ r, (f r).web = r.web)
    (hb : ∀ r : LaneRec, r.Balanced → (f r).Balanced) : s.Accounts (s.updLane l f) := s.accounts_setLane l _ (hw _) (hb _)

theorem State.accounts_updLane_same (s : State) (l : Lane) (f : LaneRec → LaneRec) (hw : ∀ r, (f r).web = r.web)
    (hc : ∀ r, (f r).counters = r.counters) : s.Accounts (s.updLane l f) :=
  s.accounts_updLane l f hw (fun r hr => LaneRec.balanced_congr (hc r) hr)

theorem State.accounts_latchLane (s : State) (l : Lane) (a : LaneAlarm) (d : List Byte) : s.Accounts (s.latchLane l a d) :=
  .of_same rfl rfl (fun m => s.lane_latchLane_proj LaneRec.web l m a d (by intros; rfl))
    (fun m => s.lane_latchLane_proj LaneRec.counters l m a d (by intros; rfl))

theorem State.accounts_latchChip (s : State) (a : ChipAlarm) (d : List Byte) : s.Accounts (s.latchChip a d) :=
  .of_lanes rfl rfl (fun _ => rfl)

/-! ## Cards marked -/

/-- A change of a card that keeps its record, and no reason twice. -/
def KeepsRecord (f : Card → Card) : Prop := ∀ c, (f c).record = c.record ∧ (c.reasons.Nodup → (f c).reasons.Nodup)

theorem Card.nodup_addReason (r : Reason) (c : Card) (h : c.reasons.Nodup) : (c.addReason r).reasons.Nodup := by
  rw [Card.reasons_addReason]
  split
  · exact h
  · next hr => exact List.nodup_append_comm.1 (List.nodup_cons.2 ⟨hr, h⟩)

theorem Card.nodup_addReasonIf (b : Bool) (r : Reason) (c : Card) (h : c.reasons.Nodup) : (c.addReasonIf b r).reasons.Nodup := by
  unfold Card.addReasonIf
  split
  · exact c.nodup_addReason r h
  · exact h

theorem keepsRecord_addReason (r : Reason) : KeepsRecord (Card.addReason r) := fun c => ⟨by simp, c.nodup_addReason r⟩

theorem keepsRecord_ite {p : Card → Prop} [DecidablePred p] {f : Card → Card} (hf : KeepsRecord f) :
    KeepsRecord (fun c => if p c then f c else c) := fun c => by
  dsimp only
  split
  · exact hf c
  · exact ⟨rfl, id⟩

/-- An accepted report writes into the card and adds reasons (R78 to R81). -/
theorem keepsRecord_accept (kind : Kind) (r : Recipe) (payload : List Byte) : KeepsRecord (Card.accept kind r payload) := by
  intro c
  cases kind with
  | load => exact ⟨by simp [Card.accept, Card.acceptLoad], fun h => Card.nodup_addReasonIf _ _ _ (Card.nodup_addReasonIf _ _ _ h)⟩
  | inspect =>
    exact ⟨by simp [Card.accept, Card.acceptInspect], fun h => Card.nodup_addReasonIf _ _ _ (Card.nodup_addReasonIf _ _ _ h)⟩
  | card => exact ⟨by simp [Card.accept, Card.acceptCard], fun h => Card.nodup_addReasonIf _ _ _ h⟩
  | sealing =>
    show (c.acceptSeal r payload).record = c.record ∧ (c.reasons.Nodup → (c.acceptSeal r payload).reasons.Nodup)
    unfold Card.acceptSeal
    split
    · exact ⟨rfl, id⟩
    · simp only
      split
      · exact ⟨by simp, fun h => Card.nodup_addReasonIf _ _ _ h⟩
      · exact ⟨by simp, fun h => Card.nodup_addReason _ _ h⟩
  | gate => exact ⟨rfl, id⟩
  | stack => exact ⟨rfl, id⟩

/-- A planned command is noted in the card, a seal calculation with its reason (R86, R99). -/
theorem keepsRecord_planFor (s : State) (l : Lane) (kind : Kind) : KeepsRecord (fun c => (s.planFor l kind c).2) := by
  have hseal : ∀ r m pitch zs z, KeepsRecord (fun c => (planSeal r m pitch zs z c).2) := by
    intro r m pitch zs z c
    have hreason : ∀ (o : Option Reason) (d : Card), (match o with | some why => d.addReason why | none => d).record = d.record ∧
        (d.reasons.Nodup → (match o with | some why => d.addReason why | none => d).reasons.Nodup) := by
      intro o d
      cases o with
      | none => exact ⟨rfl, id⟩
      | some why => exact keepsRecord_addReason why d
    dsimp only
    unfold planSeal
    simp only
    split
    · split <;> exact hreason _ _
    · exact ⟨rfl, id⟩
  intro c
  cases kind <;> simp only [State.planFor]
  · unfold planLoad; split <;> exact ⟨rfl, id⟩
  · unfold planInspect; split <;> exact ⟨rfl, id⟩
  · unfold planCard; split <;> exact ⟨rfl, id⟩
  all_goals exact hseal _ _ _ _ _ c

theorem State.accounts_mapWeb (s : State) (l : Lane) {f : Card → Card} (hf : KeepsRecord f) : s.Accounts (s.mapWeb l f) where
  pool h := by
    have hpool : (s.mapWeb l f).pool = s.pool := s.pool_updLane_same l _ (recordsOf_map (fun c => (hf c).1) _)
    rwa [poolSound_iff, hpool, ← poolSound_iff]
  reasons h c hc := by
    rcases ((s.mapWeb l f).mem_inUse c).1 hc with hg | ⟨m, hm⟩
    · exact h c ((s.mem_inUse c).2 (.inl hg))
    · rw [State.mapWeb, State.lane_updLane] at hm
      split at hm
      · obtain ⟨d, hd, rfl⟩ := List.mem_map.1 hm
        exact (hf d).2 (h d ((s.mem_inUse d).2 (.inr ⟨m, hd⟩)))
      · exact h c ((s.mem_inUse c).2 (.inr ⟨m, hm⟩))
  gate h := h
  rejected _ h m := LaneRec.balanced_congr (State.lane_updLane_proj LaneRec.counters s l m _ (by intros; rfl)) (h m)

theorem State.accounts_updCard (s : State) (l : Lane) (i : Index) {f : Card → Card} (hf : KeepsRecord f) :
    s.Accounts (s.updCard l i f) := s.accounts_mapWeb l (keepsRecord_ite hf)

/-! ## Cards freed -/

/-- Cards taken off their lists are counted and freed. -/
theorem State.accounts_release {s u : State} (place : Card → Lane) {count : Card → LaneRec → LaneRec} {cs : List Card}
    (hpool : u.pool + recordsOf cs = s.pool) (hgate : u.gate ⊆ s.gate) (hweb : ∀ l, (u.lane l).web ⊆ (s.lane l).web)
    (hcounters : ∀ l, (u.lane l).counters = (s.lane l).counters) (hcount : ∀ c r, (count c r).web = r.web)
    (hbalanced : GateReasoned s → ∀ c ∈ cs, ∀ r : LaneRec, r.Balanced → (count c r).Balanced) :
    s.Accounts (u.release place count cs) := by
  have hlane : ∀ l, ((u.release place count cs).lane l).web = (u.lane l).web := fun l => by
    rw [State.lane_release]
    exact foldl_keeps (fun r : LaneRec => r.web = (u.lane l).web) _ _ _ rfl (fun r c _ hr => (hcount c r).trans hr)
  refine ⟨fun h => ?_, fun h c hc => h c ?_, fun h c hc => h c (hgate (by simpa using hc)), fun hg h l => ?_⟩
  · rw [poolSound_iff, State.pool_release _ _ hcount, hpool, ← poolSound_iff]
    exact h
  · rw [State.mem_inUse, State.release_gate] at hc
    rw [State.mem_inUse]
    exact hc.imp (fun hc => hgate hc) (fun ⟨l, hl⟩ => ⟨l, hweb l (hlane l ▸ hl)⟩)
  · show LaneRec.Balanced _
    rw [State.lane_release]
    exact foldl_keeps LaneRec.Balanced _ _ _ (LaneRec.balanced_congr (hcounters l) (h l))
      (fun r c hc hr => hbalanced hg c (List.mem_of_mem_filter hc) r hr)

theorem State.accounts_removeGate (s : State) (p : Card → Bool) {count : Card → LaneRec → LaneRec}
    (hcount : ∀ c r, (count c r).web = r.web)
    (hbalanced : ∀ c, c.reasons ≠ [] → ∀ r : LaneRec, r.Balanced → (count c r).Balanced) : s.Accounts (s.removeGate p count) := by
  rw [State.removeGate_eq]
  refine State.accounts_release _ ?_ (List.filter_subset_self _) (fun l => List.Subset.refl _) (fun l => rfl) hcount
    (fun hg c hc => hbalanced c (hg c (List.mem_of_mem_filter hc)))
  have h := s.pool_withGate (s.gate.filter (fun c => !p c))
  rw [← recordsOf_filter p s.gate, ← add_assoc, add_right_comm] at h
  exact add_right_cancel h

theorem LaneRec.Balanced.countExpired {r : LaneRec} (hr : r.Balanced) {c : Card} (hc : c.reasons ≠ []) : (r.countExpired c).Balanced :=
  (hr.countRejected hc).bump (by decide) (by decide) 1

theorem LaneRec.Balanced.countUnverified {r : LaneRec} (hr : r.Balanced) {c : Card} (hc : c.reasons ≠ []) :
    (r.countUnverified c).Balanced := (hr.countRejected hc).bump (by decide) (by decide) 1

theorem Card.reasons_retire_ne_nil (c : Card) : c.retire.reasons ≠ [] := by
  unfold Card.retire Card.addReasonIf
  split
  · exact c.reasons_addReason_ne_nil _
  · next h => simpa using h

/-- The cards at the head of a web list are taken off it, counted and freed. -/
theorem State.accounts_releaseWeb (s : State) (l : Lane) {count : Card → LaneRec → LaneRec} {cs rest : List Card}
    (h : (s.lane l).web = cs ++ rest) (hcount : ∀ c r, (count c r).web = r.web)
    (hbalanced : ∀ c, ∀ r : LaneRec, r.Balanced → (count c r).Balanced) :
    s.Accounts ((s.updLane l (fun r => { r with web := rest })).release (fun _ => l) count cs) := by
  refine State.accounts_release _ ?_ (List.Subset.refl _) (fun m => ?_)
    (fun m => State.lane_updLane_proj LaneRec.counters s l m _ (by intros; rfl)) hcount (fun _ c _ => hbalanced c)
  · have hpool : (s.updLane l (fun r => { r with web := rest })).pool + recordsOf (s.lane l).web = s.pool + recordsOf rest :=
      s.pool_setLane l _
    rw [h, recordsOf_append, ← add_assoc] at hpool
    exact add_right_cancel hpool
  · rw [State.lane_updLane]
    split
    · next hm => subst hm; rw [h]; exact List.subset_append_right _ _
    · exact List.Subset.refl _

theorem State.accounts_retireWeb (s : State) (k : Index) (l : Lane) : s.Accounts (s.retireWeb k l) := by
  rw [State.retireWeb_eq]
  exact s.accounts_releaseWeb l List.takeWhile_append_dropWhile.symm (fun c r => by simp)
    (fun c r hr => hr.countRejected c.reasons_retire_ne_nil)

theorem State.accounts_loseWeb (s : State) (l : Lane) : s.Accounts (s.loseWeb l) := by
  rw [State.loseWeb_eq]
  exact s.accounts_releaseWeb l (by simp) (fun c r => rfl) (fun c r hr => hr.bump (by decide) (by decide) 1)

theorem State.accounts_voidGate (s : State) (l : Lane) : s.Accounts (s.voidGate l) :=
  s.accounts_removeGate _ (fun c r => by simp [LaneRec.countUnverified]) (fun c hc r hr => hr.countUnverified hc)

end Sys2Proof.Machine
end

section
/-! PROOFS. The gate's count takes the oldest entries of a lane off the gate list (R121). -/

namespace Sys2Proof.Machine

open Sys2Proof.Safety

/-! ## The oldest gate entries of a lane -/

/-- Taking the oldest entry of a lane off a gate list (R121). -/
theorem ofLane_eraseP (l m : Lane) (gate : List Card) :
    ofLane m (gate.eraseP (fun x => x.lane = l)) = if m = l then (ofLane l gate).tail else ofLane m gate := by
  induction gate with
  | nil => simp [ofLane]
  | cons c gate ih =>
    unfold ofLane at ih ⊢
    by_cases hc : c.lane = l
    · rw [List.eraseP_cons_of_pos (by simpa using hc)]
      by_cases hm : m = l
      · simp [hm, hc]
      · have hne : c.lane ≠ m := fun e => hm (e.symm.trans hc)
        simp [hm, hne]
    · rw [List.eraseP_cons_of_neg (by simpa using hc), List.filter_cons, ih]
      by_cases hm : m = l
      · subst hm; simp [hc]
      · simp [hm, List.filter_cons]

theorem recordsOf_eraseP {l : Lane} {gate : List Card} {c : Card} {rest : List Card} (h : ofLane l gate = c :: rest) :
    recordsOf (gate.eraseP (fun x => x.lane = l)) + {c.record} = recordsOf gate := by
  induction gate with
  | nil => simp [ofLane] at h
  | cons x gate ih =>
    by_cases hx : x.lane = l
    · rw [List.eraseP_cons_of_pos (by simpa using hx)]
      obtain ⟨rfl, -⟩ : x = c ∧ _ := by simpa [ofLane, hx] using h
      rw [recordsOf_cons, add_comm]
    · rw [List.eraseP_cons_of_neg (by simpa using hx), recordsOf_cons, recordsOf_cons, add_assoc,
        ih (by simpa [ofLane, hx] using h)]

/-- What is left of a gate list once the `n` oldest entries of a lane have been taken off it. -/
structure Confirmed (l : Lane) (n : Nat) (before after : List Card) : Prop where
  own : ofLane l after = (ofLane l before).drop n
  others : ∀ m, m ≠ l → ofLane m after = ofLane m before
  subset : after ⊆ before
  records : recordsOf after + recordsOf ((ofLane l before).take n) = recordsOf before

/-- Confirming one entry takes the lane's oldest off the gate list, counts it as rejected and frees it (R121). -/
theorem State.confirm_succ {l : Lane} {s : State} {c : Card} {rest : List Card} (h : s.gateOf l = c :: rest) (n : Nat) :
    s.confirm l (n + 1) =
      (((s.updLane l (LaneRec.countRejected c)).freeRecord c).withGate (s.gate.eraseP (fun x => x.lane = l))).confirm l n := by
  rw [← State.freeRecord_withGate, State.confirm, h]
  rfl

/-- Confirming entries takes them off the gate list, counts each as rejected and frees it, oldest first (R121). -/
theorem State.confirm_eq (l : Lane) (n : Nat) (s : State) :
    ∃ gate, Confirmed l n s.gate gate ∧
      s.confirm l n = (s.withGate gate).release (fun _ => l) LaneRec.countRejected ((s.gateOf l).take n) := by
  induction n generalizing s with
  | zero => exact ⟨s.gate, ⟨rfl, fun _ _ => rfl, List.Subset.refl _, by simp⟩, by simp [State.confirm, State.release]⟩
  | succ n ih =>
    cases hes : s.gateOf l with
    | nil =>
      have hes' : ofLane l s.gate = [] := hes
      exact ⟨s.gate, ⟨by simp [hes'], fun _ _ => rfl, List.Subset.refl _, by simp [hes']⟩, by simp [State.confirm, hes, State.release]⟩
    | cons c rest =>
      have hes' : ofLane l s.gate = c :: rest := hes
      have hrest : ofLane l (s.gate.eraseP (fun x => x.lane = l)) = rest := by rw [ofLane_eraseP, if_pos rfl, hes', List.tail_cons]
      obtain ⟨gate, ⟨hown, hothers, hsubset, hrecords⟩, heq⟩ :=
        ih (((s.updLane l (LaneRec.countRejected c)).freeRecord c).withGate (s.gate.eraseP (fun x => x.lane = l)))
      rw [State.withGate_gate, hrest] at hown hrecords
      rw [State.gateOf, State.withGate_gate, hrest] at heq
      refine ⟨gate, ⟨?_, fun m hm => ?_, fun x hx => List.mem_of_mem_eraseP (hsubset hx), ?_⟩, ?_⟩
      · rw [hown, hes', List.drop_succ_cons]
      · rw [hothers m hm, State.withGate_gate, ofLane_eraseP, if_neg hm]
      · rw [hes', List.take_succ_cons, recordsOf_cons, add_left_comm, hrecords, add_comm, recordsOf_eraseP hes']
      · rw [State.confirm_succ hes, heq, List.take_succ_cons, State.release_cons, State.updLane_withGate, State.freeRecord_withGate,
          State.withGate_withGate]

end Sys2Proof.Machine
end

section
/-! PROOFS. The parts of a cycle frame keep the books: the stages of the pitch step, the ends of conversions, the continuity handling and the slots (R55,
R121, R123, R132, R135, R136, R139). -/

namespace Sys2Proof.Machine

open Sys2Proof.Safety

/-! ## Stages 1, 2, 3 and 6 -/

theorem State.accounts_applyReport (s : State) (f : Frame) (l : Lane) (k : Index) (kind : Kind) : s.Accounts (s.applyReport f l k kind) := by
  unfold State.applyReport
  split
  · exact .refl s
  · refine (s.accounts_updCard l _ (fun c => ?_)).trans (State.accounts_updLane_same _ l _ (by intros; rfl) (by intros; rfl))
    split
    · exact keepsRecord_accept _ _ _ c
    · exact keepsRecord_addReason _ c

/-- Only entries of the gate list are confirmed, so each has a reason to be counted under (R121). -/
theorem State.accounts_confirm (l : Lane) (n : Nat) (s : State) : s.Accounts (s.confirm l n) := by
  obtain ⟨gate, hgate, heq⟩ := s.confirm_eq l n
  rw [heq]
  refine State.accounts_release _ ?_ hgate.subset (fun m => List.Subset.refl _) (fun m => rfl) (fun c r => r.countRejected_web c)
    (fun hg c hc r hr => hr.countRejected (hg c (List.mem_of_mem_filter (List.mem_of_mem_take hc))))
  have h := s.pool_withGate gate
  rw [← hgate.records, add_left_comm, add_comm s.pool] at h
  exact add_left_cancel h

theorem State.accounts_applyGateCount (s : State) (l : Lane) (k : Index) (n : Nat) : s.Accounts (s.applyGateCount l k n) := by
  unfold State.applyGateCount
  have h := State.accounts_confirm l (min n (s.gateOf l).length) s
  simp only
  split
  · have hb := h.trans (State.accounts_updLane _ l (LaneRec.bump 19 (n - (s.gateOf l).length)) (by intros; rfl)
      (fun r hr => hr.bump (by decide) (by decide) _))
    split
    · exact hb
    · exact hb.trans (State.accounts_latchLane _ l _ _)
  · exact h

theorem State.accounts_evalStationLost (s : State) (l : Lane) : s.Accounts (s.evalStationLost l) := by
  unfold State.evalStationLost
  simp only
  have h : ∀ now : Bool, s.Accounts (s.updLane l (fun r => { r with stationLost := now })) := fun now =>
    s.accounts_updLane_same l _ (by intros; rfl) (by intros; rfl)
  split
  · refine ((h _).trans (State.accounts_latchLane _ l _ _)).trans
      (State.accounts_updLane_same _ l _ (fun r => ?_) (fun r => ?_)) <;> split <;> simp
  · exact h _

theorem accounts_stage1 (f : Frame) (k : Index) (applies : Bool) (l : Lane) (s : State) : s.Accounts (stage1 f k applies l s) := by
  unfold stage1
  split
  · exact .refl s
  · simp only
    split
    · exact ((s.accounts_foldl _ _ (fun t kind _ => t.accounts_applyReport f l k kind)).trans
        (State.accounts_applyGateCount _ l k _)).trans (State.accounts_evalStationLost _ l)
    · exact s.accounts_evalStationLost l

theorem accounts_stage2 (k : Index) (l : Lane) (s : State) : s.Accounts (stage2 k l s) := by
  unfold stage2
  split
  · exact .refl s
  · simp only
    split
    · exact .refl s
    · exact (s.accounts_removeGate _ (fun c r => by simp [LaneRec.countExpired]) (fun c hc r hr => hr.countExpired hc)).trans
        (State.accounts_latchLane _ l _ _)

theorem accounts_stage3 (k : Index) (l : Lane) (s : State) : s.Accounts (stage3 k l s) := by
  have hsame : ∀ f : LaneRec → LaneRec, (∀ r, (f r).web = r.web) → (∀ r, (f r).counters = r.counters) → s.Accounts (s.updLane l f) :=
    s.accounts_updLane_same l
  have htake : s.Accounts (s.takeChangeover k l) := by
    unfold State.takeChangeover
    split
    · exact .refl s
    · split
      · split
        · exact hsame _ (by intros; rfl) (by intros; rfl)
        · exact (hsame _ (by intros; rfl) (by intros; rfl)).trans (State.accounts_latchLane _ l _ _)
      · exact .refl s
  unfold stage3
  split
  · exact s.accounts_mapWeb l (keepsRecord_addReason _)
  · exact htake
  · exact htake
  · exact .refl s

theorem accounts_stage6 (k : Index) (l : Lane) (s : State) : s.Accounts (stage6 k l s) := by
  refine s.accounts_foldl _ _ (fun t kind _ => ?_)
  unfold State.planStation
  split
  · exact .refl t
  · exact (t.accounts_updCard l _ (keepsRecord_planFor t l kind)).trans
      (State.accounts_updLane_same _ l _ (by intros; rfl) (by intros; rfl))

/-! ## Stage 4 -/

/-- The stacker events of a passed card count no rejected card (R125, R126). -/
theorem LaneRec.Balanced.passEvents {r : LaneRec} (hr : r.Balanced) (c : Card) (recipe : Recipe) : (r.passEvents c recipe).1.Balanced := by
  have hclose : ∀ q : LaneRec, q.Balanced → (({ q with openBatch := none } : LaneRec).bump 20 1).Balanced := fun q hq =>
    LaneRec.Balanced.bump (LaneRec.balanced_congr (r := q) rfl hq) (by decide) (by decide) 1
  unfold LaneRec.passEvents
  cases hb : r.openBatch with
  | none =>
    simp only [hb]
    split
    · exact hclose _ (LaneRec.balanced_congr (r := r) rfl hr)
    · exact LaneRec.balanced_congr (r := r) rfl hr
  | some b =>
    by_cases hs : b.sku = c.sku
    · simp only [if_pos hs, hb]
      split
      · exact hclose _ hr
      · exact LaneRec.balanced_congr (r := r) rfl hr
    · simp only [if_neg hs, LaneRec.bump_openBatch]
      split
      · exact hclose _ (LaneRec.balanced_congr rfl (hclose r hr))
      · exact LaneRec.balanced_congr rfl (hclose r hr)

/-- The card at the head of a web list leaves it, and its record joins another list in the same step. -/
theorem State.Accounts.of_head {s t : State} {l : Lane} {c : Card} {r : LaneRec} (hw : (s.lane l).web = c :: r.web)
    (hb : (s.lane l).Balanced → r.Balanced) (hlane : ∀ m, t.lane m = (s.setLane l r).lane m)
    (hpool : t.pool = (s.setLane l r).pool + {c.record})
    (hgate : ∀ d ∈ t.gate, d ∈ s.gate ∨ d.reasons ≠ [] ∧ (c.reasons.Nodup → d.reasons.Nodup)) : s.Accounts t where
  pool h := by
    have hs := s.pool_setLane l r
    rw [hw, recordsOf_cons, ← add_assoc] at hs
    rw [poolSound_iff, hpool, add_right_cancel hs, ← poolSound_iff]
    exact h
  reasons h d hd := by
    have hc : c.reasons.Nodup := h c ((s.mem_inUse c).2 (.inr ⟨l, by rw [hw]; exact List.mem_cons_self ..⟩))
    rcases (t.mem_inUse d).1 hd with hd | ⟨m, hm⟩
    · rcases hgate d hd with hd | ⟨-, hd⟩
      · exact h d ((s.mem_inUse d).2 (.inl hd))
      · exact hd hc
    · rw [hlane, State.lane_setLane] at hm
      refine h d ((s.mem_inUse d).2 (.inr ⟨m, ?_⟩))
      split at hm
      · next hl => subst hl; rw [hw]; exact List.mem_cons_of_mem c hm
      · exact hm
  gate h d hd := (hgate d hd).elim (h d) And.left
  rejected _ h m := by
    rw [hlane, State.lane_setLane]
    split
    · exact hb (h l)
    · exact h m

/-- A card is passed: its record is freed (R119). -/
theorem State.accounts_passAtPunch (s : State) (l : Lane) {c : Card} {rest : List Card} (hw : (s.lane l).web = c :: rest) :
    s.Accounts (s.passAtPunch l c).1 := by
  have hweb : ((s.lane l).passEvents c (s.recipeOf c)).1.web = c :: rest :=
    (congrArg Track.web (LaneRec.track_passEvents c (s.recipeOf c) (s.lane l) [])).trans hw
  unfold State.passAtPunch
  refine State.Accounts.of_head (l := l) (c := c) ?_ (fun hr => ?_) (fun m => State.lane_freeRecord _ c m) (State.pool_freeRecord _ c)
    (fun d hd => .inl (by simpa using hd))
  · rw [hw]
    simp [LaneRec.planGate, hweb]
  · have hpass := hr.passEvents c (s.recipeOf c)
    exact LaneRec.balanced_congr rfl (LaneRec.Balanced.bump (i := 1)
      (LaneRec.balanced_congr (r := ((s.lane l).passEvents c (s.recipeOf c)).1) rfl hpass) (by decide) (by decide) 1)

/-- A card is rejected: it joins the gate list with a reason, its own or FORCED (R118). -/
theorem State.accounts_rejectAtPunch (s : State) (k : Index) (l : Lane) {c : Card} {rest : List Card}
    (hw : (s.lane l).web = c :: rest) (hr : ¬ (c.reasons = [] ∧ (s.lane l).force = false)) : s.Accounts (s.rejectAtPunch k l c) := by
  have hreasons : (c.addReasonIf (s.lane l).force .forced).reasons ≠ [] := by
    unfold Card.addReasonIf
    split
    · exact c.reasons_addReason_ne_nil _
    · next hf => exact fun hc => hr ⟨hc, by simpa using hf⟩
  let d := { c.addReasonIf (s.lane l).force .forced with gateIndex := some k }
  let r := LaneRec.planGate true d.serial d.firstReason { s.lane l with web := (s.lane l).web.tail }
  have ht : s.rejectAtPunch k l c = (s.setLane l r).withGate (s.gate ++ [d]) := rfl
  rw [ht]
  refine State.Accounts.of_head (l := l) (c := c) (r := r) (by rw [hw]; simp [r, LaneRec.planGate, hw])
    (fun h => LaneRec.balanced_congr rfl h) (fun m => rfl) ?_ (fun x hx => ?_)
  · have hpool := (s.setLane l r).pool_withGate (s.gate ++ [d])
    rw [recordsOf_append, State.setLane_gate, add_comm (recordsOf s.gate), ← add_assoc] at hpool
    rw [add_right_cancel hpool]
    simp [d]
  · rcases List.mem_append.1 hx with hx | hx
    · exact .inl hx
    · obtain rfl : x = d := by simpa using hx
      exact .inr ⟨hreasons, fun hc => c.nodup_addReasonIf _ _ hc⟩

theorem State.accounts_punch (s : State) (k : Index) (l : Lane) : s.Accounts (s.punch k l).1 := by
  unfold State.punch
  split
  · dsimp only
    exact s.accounts_updLane_same l _ (by intros; rfl) (by intros; rfl)
  · have hs : s.Accounts (s.updLane l (fun r => { r with blindAnswer := false })) :=
      s.accounts_updLane_same l _ (by intros; rfl) (by intros; rfl)
    simp only
    split
    · exact hs
    · next c rest hw =>
      split
      · split
        · exact hs.trans (State.accounts_passAtPunch _ l hw)
        · next hr => exact hs.trans (State.accounts_rejectAtPunch _ k l hw hr)
      · exact hs

theorem accounts_stage4 (k : Index) (l : Lane) (s : State) : s.Accounts (stage4 k l s) := by
  refine (s.accounts_punch k l).trans ?_
  unfold stage4
  exact State.accounts_updLane_same _ l _ (by intros; rfl) (by intros; rfl)

/-! ## Stages 5 and 7 -/

/-- A new card takes its record from the head of the free list (R29). -/
theorem State.accounts_newCard {s t : State} {l : Lane} {r : LaneRec} {card : Card} (hfree : s.free = card.record :: t.free)
    (hgate : t.gate = s.gate) (hw : r.web = (s.lane l).web ++ [card]) (hlane : ∀ m, t.lane m = (s.setLane l r).lane m)
    (hreasons : card.reasons = []) (hb : (s.lane l).Balanced → r.Balanced) : s.Accounts t where
  pool h := by
    have hs := s.pool_setLane l r
    have ht : t.pool + {card.record} = (s.setLane l r).pool := by
      simp only [State.pool, hgate, hlane, State.setLane_free, State.setLane_gate, hfree, ← Multiset.cons_coe, ← Multiset.singleton_add]
      abel
    rw [hw, recordsOf_append, add_comm (recordsOf _), ← add_assoc] at hs
    have hpool : t.pool + {card.record} = s.pool + {card.record} := by
      rw [ht, add_right_cancel hs, recordsOf_cons, recordsOf_nil, add_zero]
    rw [poolSound_iff, add_right_cancel hpool, ← poolSound_iff]
    exact h
  reasons h d hd := by
    rcases (t.mem_inUse d).1 hd with hd | ⟨m, hm⟩
    · exact h d ((s.mem_inUse d).2 (.inl (hgate ▸ hd)))
    · rw [hlane, State.lane_setLane] at hm
      split at hm
      · rw [hw] at hm
        rcases List.mem_append.1 hm with hm | hm
        · exact h d ((s.mem_inUse d).2 (.inr ⟨l, hm⟩))
        · obtain rfl : d = card := by simpa using hm
          rw [hreasons]
          exact List.nodup_nil
      · exact h d ((s.mem_inUse d).2 (.inr ⟨m, hm⟩))
  gate h d hd := h d (hgate ▸ hd)
  rejected _ h m := by
    rw [hlane, State.lane_setLane]
    split
    · exact hb (h l)
    · exact h m

theorem State.accounts_createCard (s : State) (l : Lane) (k : Index) : s.Accounts (s.createCard l k) := by
  unfold State.createCard
  split
  · exact .refl s
  · next n rest hfree =>
    refine State.accounts_newCard (l := l) (by rw [State.updRefs_free]; exact hfree) (State.updRefs_gate ..) rfl
      (fun m => State.lane_updRefs ..) rfl (fun hr => ?_)
    exact LaneRec.Balanced.bump (LaneRec.balanced_congr (r := s.lane l) rfl hr) (by decide) (by decide) 1

theorem accounts_stage5 (k : Index) (l : Lane) (s : State) : s.Accounts (stage5 k l s) := by
  unfold stage5
  split
  · exact s.accounts_createCard l k
  · exact .refl s

/-- The run-end close counts no rejected card (R127). -/
theorem LaneRec.Balanced.runEndClose {r : LaneRec} (hr : r.Balanced) (mode : Option CloseMode) (full : Bool) :
    (r.runEndClose mode full).1.Balanced := by
  have hclose : (({ r with openBatch := none } : LaneRec).bump 20 1).Balanced :=
    LaneRec.Balanced.bump (LaneRec.balanced_congr (r := r) rfl hr) (by decide) (by decide) 1
  unfold LaneRec.runEndClose
  split
  · split
    · exact hr
    · exact hclose
    · exact hclose
  · split <;> exact hr

/-- A lane enters IDLE with the run-end close (R43, R48). -/
theorem State.accounts_close (s : State) (l : Lane) (mode : Option CloseMode) (full : Bool) (f : LaneRec → LaneRec)
    (hw : ∀ r, (f r).web = r.web) (hc : ∀ r, (f r).counters = r.counters) :
    s.Accounts (s.setLane l (f ((s.lane l).enterIdle.runEndClose mode full).1)) :=
  s.accounts_setLane l _
    ((hw _).trans (congrArg Track.web (LaneRec.track_runEndClose mode full (s.lane l).enterIdle [])))
    (fun hr => LaneRec.balanced_congr (hc _)
      (LaneRec.Balanced.runEndClose (r := (s.lane l).enterIdle) (LaneRec.balanced_congr (r := s.lane l) rfl hr) mode full))

theorem accounts_stage7 (l : Lane) (s : State) : s.Accounts (stage7 l s) := by
  unfold stage7
  simp only
  split
  · exact s.accounts_close l _ _ (fun r => { r with plan := _ }) (by intros; rfl) (by intros; rfl)
  · exact .refl s

theorem State.accounts_faultAfterStep (s : State) (l : Lane) : s.Accounts (s.faultAfterStep l) := by
  refine s.accounts_updLane_same l _ (fun r => ?_) (fun r => ?_) <;> dsimp only <;> split <;> simp

/-! ## The pitch steps -/

theorem accounts_runStage (x : StepCtx) (n : Nat) (l : Lane) (s : State) : s.Accounts (runStage x n l s) := by
  unfold runStage
  split
  · exact accounts_stage1 _ _ _ l s
  · exact accounts_stage2 _ l s
  · exact accounts_stage3 _ l s
  · exact accounts_stage4 _ l s
  · exact accounts_stage5 _ l s
  · exact accounts_stage6 _ l s
  · exact (accounts_stage7 l s).trans (State.accounts_faultAfterStep _ l)
  · exact .refl s

theorem State.accounts_zoneFaultBegins (s : State) (l : Lane) (inStep : Bool) : s.Accounts (s.zoneFaultBegins l inStep) := by
  unfold State.zoneFaultBegins
  refine (s.accounts_latchLane l .zoneFault (nat16 (s.zone l).z ++ [byteOf (s.zone l).streak])).trans ?_
  simp only
  split
  · exact State.accounts_updLane_same _ l _ (by intros; rfl) (by intros; rfl)
  · exact State.accounts_updLane_same _ l _ (fun r => r.enterFault_web) (fun r => r.enterFault_counters)

theorem State.accounts_convert (s : State) (raw : RawCode) (inStep : Lane → Bool) : s.Accounts (s.convert raw inStep) := by
  have hz : ∀ z, s.Accounts (s.setZone s.conv.zone z) := fun z => .of_lanes rfl rfl (fun _ => rfl)
  have hb : ∀ (u : State) l, u.Accounts (u.beginConversion l) := fun u l => .of_lanes rfl rfl (fun _ => rfl)
  unfold State.convert
  simp only
  split
  · exact ((hz _).trans (State.accounts_zoneFaultBegins _ _ _)).trans (hb _ _)
  · exact (hz _).trans (hb _ _)

theorem accounts_runPitchSteps (x : StepCtx) (ticks : List Tick) (s : State) : s.Accounts (runPitchSteps x ticks s) :=
  runPitchSteps_keeps (s.Accounts ·) x ticks s (.refl s) (fun n l t ht => ht.trans (accounts_runStage x n l t))
    (fun raw inStep t _ ht => ht.trans (t.accounts_convert raw inStep))

/-! ## The other parts of a cycle frame -/

theorem accounts_gapHandling (last k : Index) (order : List Lane) (s : State) : s.Accounts (gapHandling last k order s) := by
  refine gapHandling_keeps (s.Accounts ·) last k order s (s.accounts_latchChip _ _) (fun n l t ht => ht.trans ?_)
  unfold gapPart
  split
  · exact t.accounts_voidGate l
  · exact t.accounts_retireWeb k l
  · refine t.accounts_mapWeb l (fun c => ⟨by simp, c.nodup_addReasonIf _ _⟩)
  · exact .refl t

theorem accounts_lostTrack (last k : Index) (s : State) : s.Accounts (lostTrack last k s) := by
  refine ((s.accounts_removeGate _ (fun c r => by simp [LaneRec.countUnverified]) (fun c hc r hr => hr.countUnverified hc)).trans
    (State.accounts_eachLane _ _ (fun l t => t.accounts_loseWeb l))).trans (State.accounts_eachLane _ _ (fun l t => ?_))
  unfold State.loseLane
  split
  · exact .refl t
  · exact (t.accounts_updLane_same l _ (by simp) (by simp)).trans (State.accounts_latchLane _ l _ _)

theorem accounts_frameAccepted (k : Index) (s : State) : s.Accounts (frameAccepted k s) := by
  have hlast : s.Accounts { s with lastIndex := some k } := .of_lanes rfl rfl (fun _ => rfl)
  have hswitch : ∀ t : State, t.Accounts (t.decideSwitch k) := fun t => by
    unfold State.decideSwitch
    split
    · exact .refl t
    · split
      · split <;> exact .of_lanes rfl rfl (fun _ => rfl)
      · exact .refl t
  have hplans : ∀ t : State, t.Accounts t.clearPlans := fun t => t.accounts_eachLane _ (fun l u =>
    u.accounts_updLane_same l (fun r => { r with plan := LanePlan.none }) (by intros; rfl) (by intros; rfl))
  exact (hlast.trans (hswitch _)).trans (hplans _)

theorem accounts_beginCycle (f : Frame) (cls : FrameClass) (gapOrder : List Lane) (s : State) :
    s.Accounts (beginCycle f cls gapOrder s) := by
  have htaken : s.Accounts (frameTaken cls s) := .of_lanes rfl rfl (fun _ => rfl)
  have hcontinuity : ∀ t : State, t.Accounts (continuity cls (frameIndex f) gapOrder t) := fun t => by
    unfold continuity
    split
    · exact t.accounts_latchChip _ _
    · exact accounts_gapHandling _ _ gapOrder t
    · exact accounts_lostTrack _ _ t
    · exact .refl t
  rw [beginCycle_eq]
  split
  · exact htaken.trans (hcontinuity _)
  · exact (htaken.trans (hcontinuity _)).trans (accounts_frameAccepted _ _)

theorem accounts_commandSlot (isRepeat : Bool) (w : Work) (entry : SlotUse × Nat) :
    w.state.Accounts (commandSlot isRepeat w entry).state := by
  have hring : ∀ r, w.state.Accounts { w.state with ring := r } := fun r => .of_lanes rfl rfl (fun _ => rfl)
  unfold commandSlot
  split
  · split
    · unfold writeCommand
      split
      · exact .refl _
      · split
        · simp only
          split
          · exact .refl _
          · exact State.accounts_latchChip _ _ _
        · exact hring _
    · unfold compareCommand
      simp only
      split
      · split
        · exact .refl _
        · exact hring _
        · exact (hring _).trans (State.accounts_latchLane _ _ _ _)
      · split
        · exact hring _
        · exact .refl _
    · exact .refl _
  all_goals exact .refl _

theorem accounts_finishCycle (isRepeat : Bool) (f : Frame) (s : State) : s.Accounts (finishCycle isRepeat f s).state := by
  refine finishCycle_keeps (fun w => s.Accounts w.state) isRepeat f s (.refl s) (fun w e h => h.trans (accounts_commandSlot _ w e))
    (fun w h => h.trans ?_) (fun _ h => h)
  unfold writeStatus
  split
  · exact .refl _
  · split
    · exact .refl _
    · exact .of_lanes rfl rfl (fun _ => rfl)

theorem accounts_processCycle (f : Frame) (gapOrder : List Lane) (ticks : List Tick) (s : State) :
    s.Accounts (processCycle f gapOrder ticks s).state := by
  rw [processCycle_eq]
  exact ((accounts_beginCycle f _ gapOrder s).trans (accounts_runPitchSteps _ ticks _)).trans (accounts_finishCycle _ f _)

end Sys2Proof.Machine
end

section
/-! PROOFS. Every request, every command and every step keeps the books (R21, R23, R130, R131). -/

namespace Sys2Proof.Machine

open Sys2Proof.Safety

/-! ## Requests -/

/-- With every list empty and every record free the books are in order, if the counters are (R24, R36). -/
theorem State.Accounts.of_empty {s t : State} (hf : t.free = List.finRange 256) (hg : t.gate = []) (hw : ∀ l, (t.lane l).web = [])
    (hb : RejectedSound s → RejectedSound t) : s.Accounts t where
  pool _ := by
    rw [poolSound_iff, State.pool, hf, hg]
    simp only [hw, recordsOf_nil, Finset.sum_const_zero, add_zero]
  reasons _ c hc := by simp [State.mem_inUse, hg, hw] at hc
  gate _ c hc := by simp [hg] at hc
  rejected _ := hb

theorem State.accounts_settleStop (s : State) : s.Accounts s.settleStop := by
  unfold State.settleStop
  split
  · split
    · exact .of_lanes rfl rfl (fun _ => rfl)
    · exact .refl s
  · exact .of_lanes rfl rfl (fun _ => rfl)

theorem State.accounts_clearLatches (s : State) (sc : Scope) : s.Accounts (s.clearLatches sc) := by
  have hlane : ∀ (t : State) l, t.Accounts (t.clearLaneLatches l) := fun t l =>
    t.accounts_updLane_same l _ (by intros; rfl) (by intros; rfl)
  have hchip : ∀ t : State, t.Accounts t.clearChipLatches := fun t => .of_lanes rfl rfl (fun _ => rfl)
  cases sc with
  | lane l => exact hlane s l
  | chip => exact hchip s
  | all => exact (s.accounts_eachLane _ (fun l t => hlane t l)).trans (hchip _)

theorem State.accounts_maskScope (s : State) (summary stop : Byte) (sc : Scope) : s.Accounts (s.maskScope summary stop sc) := by
  have hlane : ∀ (t : State) l, t.Accounts (t.maskLane summary stop l) := fun t l =>
    t.accounts_updLane_same l _ (by intros; rfl) (by intros; rfl)
  cases sc with
  | lane l => exact hlane s l
  | chip => exact .of_lanes rfl rfl (fun _ => rfl)
  | all => exact s.accounts_eachLane _ (fun l t => hlane t l)

theorem LaneRec.balanced_reset : LaneRec.reset.Balanced := by
  unfold LaneRec.Balanced reasonSum
  decide

theorem LaneRec.balanced_clearCounters (r : LaneRec) : r.clearCounters.Balanced :=
  LaneRec.balanced_congr (r := LaneRec.reset) rfl LaneRec.balanced_reset

theorem State.free_restart (s : State) : s.restart.free = List.finRange 256 := by simp only [State.restart]

/-- No request takes a card onto a list or off it, but RESTART, which takes all off; no request counts a rejected card. -/
theorem Served.accounts {s u : State} (h : Served s u) : s.Accounts u := by
  have hsame : ∀ l (f : LaneRec → LaneRec), (∀ r, (f r).web = r.web) → (∀ r, (f r).counters = r.counters) →
      s.Accounts (s.updLane l f) := s.accounts_updLane_same
  cases h with
  | kept => exact .refl s
  | mapped m hidle hm => exact .of_lanes rfl rfl (fun _ => rfl)
  | placed m hidle hgate hm => exact .of_lanes rfl rfl (fun _ => rfl)
  | loaded b n r hb hrefs hr => exact .of_lanes (s.setEntry_free b n _) (s.setEntry_gate b n _) (s.lane_setEntry b n _)
  | switched x => exact .of_lanes rfl rfl (fun _ => rfl)
  | started l e hidle hm hmap he =>
    have hrun := hsame l (fun r => { r with state := .run, assigned := e }) (by intros; rfl) (by intros; rfl)
    unfold State.startLane
    simp only
    split
    · exact hrun.trans (State.accounts_zoneFaultBegins _ l false)
    · exact hrun
  | reassigned l e hd he => exact hsame l _ (by intros; rfl) (by intros; rfl)
  | resumed l hd => exact hsame l _ (by intros; rfl) (by intros; rfl)
  | drained l hr => exact hsame l _ (by intros; rfl) (by intros; rfl)
  | purged l hw =>
    have hmarked := s.accounts_mapWeb l (keepsRecord_addReason .lanePurge)
    have hdrain := hmarked.trans (State.accounts_updLane_same _ l (fun r => { r with state := .drain }) (by intros; rfl) (by intros; rfl))
    exact hdrain.trans (.of_lanes rfl rfl (fun _ => rfl))
  | cleared l hf hw hg hb => exact s.accounts_close l _ _ (fun r => { r with held := _ }) (by intros; rfl) (by intros; rfl)
  | scheduled l ch hw => exact hsame l _ (by intros; rfl) (by intros; rfl)
  | forced l b => exact hsame l _ (by intros; rfl) (by intros; rfl)
  | autoPurged l b => exact hsame l _ (by intros; rfl) (by intros; rfl)
  | zeroedAll =>
    have hz := s.accounts_eachLane (fun l t => t.updLane l LaneRec.clearCounters)
      (fun l t => t.accounts_updLane l _ (by intros; rfl) (fun r _ => r.balanced_clearCounters))
    exact hz.trans (.of_lanes rfl rfl (fun _ => rfl))
  | zeroed l => exact s.accounts_updLane l _ (by intros; rfl) (fun r _ => r.balanced_clearCounters)
  | alarmsRead sc => exact (s.accounts_clearLatches sc).trans (State.accounts_settleStop _)
  | masked summary stop sc => exact (s.accounts_maskScope summary stop sc).trans (State.accounts_settleStop _)
  | zoneSet l offset limit ho hl => exact .of_lanes rfl rfl (fun _ => rfl)
  | zonesRead raws => exact s.accounts_foldl _ _ (fun t raw _ => t.accounts_convert raw _)
  | roleSet r hr => exact .of_lanes rfl rfl (fun _ => rfl)
  | restarted =>
    have hl : ∀ l, s.restart.lane l = (s.lane l).restart := fun l => by simp [State.restart, State.lane]
    exact .of_empty s.free_restart rfl (fun l => by rw [hl]; rfl) (fun h l => LaneRec.balanced_congr (congrArg LaneRec.counters (hl l)) (h l))

/-! ## Commands -/

theorem free_reset : State.reset.free = List.finRange 256 := by simp only [State.reset]

theorem balanced_reset (l : Lane) : (State.reset.lane l).Balanced := by
  have hl : State.reset.lane l = LaneRec.reset := by simp [State.reset, State.lane]
  rw [hl]
  exact LaneRec.balanced_reset

theorem web_reset (l : Lane) : (State.reset.lane l).web = [] := congrArg Track.web (track_reset l)

theorem State.accounts_reset (s : State) : s.Accounts State.reset := .of_empty free_reset rfl web_reset (fun _ => balanced_reset)

/-- What every command leaves of the books. -/
theorem Effect.accounts {s t : State} (h : Effect s t) : s.Accounts t := by
  cases h with
  | kept => exact .refl s
  | reset addr high => exact s.accounts_reset.trans (.of_lanes (by with_reducible rfl) rfl (fun _ => rfl))
  | halted => exact .of_lanes rfl rfl (fun _ => rfl)
  | removed => exact s.accounts_reset.trans (.of_lanes (by with_reducible rfl) rfl (fun _ => rfl))
  | arrived f h =>
    unfold State.arrive
    split
    · exact .of_lanes rfl rfl (fun _ => rfl)
    · split <;> exact .of_lanes rfl rfl (fun _ => rfl)
  | departed f rest h hp hb => exact .of_lanes rfl rfl (fun _ => rfl)
  | rejected f rest cause h hp hb => exact .of_lanes rfl rfl (fun _ => rfl)
  | taken f rest p h hp hb => exact .of_lanes rfl rfl (fun _ => rfl)
  | handedOn f rest h hp hb =>
    unfold State.handOnCycle
    split <;> exact .of_lanes rfl rfl (fun _ => rfl)
  | cycled f rest gapOrder ticks h =>
    exact (accounts_processCycle f gapOrder ticks s).trans
      (.of_lanes (State.sendHead_free _ _) (State.sendHead_gate _ _) (State.lane_sendHead _ _))
  | saturated h => exact .of_lanes rfl rfl (fun _ => rfl)
  | converted raw h => exact s.accounts_convert raw _
  | faulted l h => exact s.accounts_faultAfterStep l
  | answered f g u hf hg hu =>
    exact hu.accounts.trans (.of_lanes (u.sendHead_free g) (u.sendHead_gate g) (u.lane_sendHead g))

/-- What every step leaves of the books. -/
theorem accounts_step {s t : State} (h : step s = .next t) : s.Accounts t := by
  refine step_leads_to (s.Accounts ·) (s.Accounts ·) (fun u q hu => hu.trans (.of_lanes rfl rfl (fun _ => rfl))) (fun u hu => ?_)
    (fun u v hu he => hu.trans he.accounts) (.refl s) h
  unfold State.tick
  split
  · exact hu.trans (.of_lanes rfl rfl (fun _ => rfl))
  · exact hu

end Sys2Proof.Machine

namespace Sys2Proof.Proofs

open Sys2Proof.Machine Sys2Proof.Safety

/-- Settles O53: every record that leaves a list joins another in the same operation, and RESTART and device reset free all of them. -/
theorem stepKeepsPool : Obligations.StepKeepsPool := fun _ _ hs h => (accounts_step h).pool hs

/-- Settles O57: a rejected card is counted once in its lane and once under its first reason, which a gate entry has by R22 and a retired
card by R136; a reason joins a card's set only when it is not in it. -/
theorem stepKeepsRejectedSum : Obligations.StepKeepsRejectedSum := by
  rintro s t ⟨hrejected, hlists, hreasons⟩ h
  have hgate : GateReasoned s := fun c hc => (hlists.2 c hc).2
  exact ⟨(accounts_step h).rejected hgate hrejected, (accounts_step h).reasons hreasons⟩

end Sys2Proof.Proofs
end

section
/-! PROOFS. The counters of rejected cards: what counting a list of cards adds to each counter of a lane, for the confirmed, the expired, the
voided and the retired cards alike (R121, R123, R130, R135, R139). -/

namespace Sys2Proof.Machine

open Sys2Proof.Safety

/-! ## Counting rejected cards -/

/-- Counting a card adds 1 to the rejected counter, to each of the counters in `extra`, and to that of the card's first reason; it changes
nothing else of the lane record. -/
structure CountsRejected (extra : List (Fin 21)) (count : Card → LaneRec → LaneRec) : Prop where
  counters : ∀ c r (j : Fin 21), (count c r).counters[j] =
    r.counters[j] + ((if j ∈ 2 :: extra then 1 else 0) + if c.firstReason.map Reason.counter = some j then 1 else 0)
  frame : ∀ c r, count c r = { r with counters := (count c r).counters }

theorem countsRejected_countRejected : CountsRejected [] LaneRec.countRejected where
  counters c r j := by rw [LaneRec.counters_countRejected, BitVec.add_assoc]; simp
  frame := LaneRec.countRejected_eq

/-- A counter of its own is raised for each card counted. -/
theorem CountsRejected.bump {extra : List (Fin 21)} {count : Card → LaneRec → LaneRec} (h : CountsRejected extra count) {i : Fin 21}
    (hi : i ∉ 2 :: extra) : CountsRejected (i :: extra) (fun c r => (count c r).bump i 1) where
  counters c r j := by
    have hmem : (if j ∈ 2 :: i :: extra then (1 : Counter) else 0) = (if j ∈ 2 :: extra then 1 else 0) + if i = j then 1 else 0 := by
      by_cases hj : i = j
      · subst hj; simp [hi]
      · simp [hj, Ne.symm hj]
    rw [LaneRec.counters_bump, h.counters, hmem, BitVec.ofNat_eq_ofNat]
    simp only [BitVec.add_assoc, BitVec.add_right_inj]
    rw [BitVec.add_comm]
  frame c r := by
    conv_lhs => rw [h.frame]
    rfl

theorem countsRejected_countExpired : CountsRejected [17] LaneRec.countExpired := countsRejected_countRejected.bump (by decide)

theorem countsRejected_countUnverified : CountsRejected [18] LaneRec.countUnverified := countsRejected_countRejected.bump (by decide)

theorem Reason.counter_injective {a b : Reason} (h : a.counter = b.counter) : a = b := by
  revert h
  cases a <;> cases b <;> simp [Reason.counter]

theorem Reason.counter_mem (why : Reason) : why.counter ∈ reasonCounters := by cases why <;> decide

section

variable {extra : List (Fin 21)} {count : Card → LaneRec → LaneRec}

/-- Every counter after cards have been counted: their number, and the number of those whose first reason it counts. -/
theorem CountsRejected.counters_foldl (h : CountsRejected extra count) (cs : List Card) (r : LaneRec) (j : Fin 21) :
    (cs.foldl (fun r c => count c r) r).counters[j] = r.counters[j] +
      (BitVec.ofNat 32 (if j ∈ 2 :: extra then cs.length else 0) +
        BitVec.ofNat 32 (cs.countP (fun c => c.firstReason.map Reason.counter = some j))) := by
  have hown : (cs.map (fun _ => if j ∈ 2 :: extra then (1 : Counter) else 0)).sum =
      BitVec.ofNat 32 (if j ∈ 2 :: extra then cs.length else 0) := by
    rw [sum_map_one (fun _ => j ∈ 2 :: extra)]
    split
    · next hj => simp [hj]
    · next hj => simp [hj]
  rw [LaneRec.counters_foldl (fun c r => h.counters c r j), List.sum_map_add, hown, sum_map_one]

/-- The rejected counter and the counters raised with it. -/
theorem CountsRejected.counters_every (h : CountsRejected extra count) (cs : List Card) (r : LaneRec) {j : Fin 21} (hj : j ∈ 2 :: extra)
    (hr : j ∉ reasonCounters) : (cs.foldl (fun r c => count c r) r).counters[j] = r.counters[j] + BitVec.ofNat 32 cs.length := by
  have hnone : cs.countP (fun c => c.firstReason.map Reason.counter = some j) = 0 := by
    rw [List.countP_eq_zero]
    intro c _ hc
    obtain ⟨why, -, rfl⟩ := Option.map_eq_some_iff.1 (of_decide_eq_true hc)
    exact hr why.counter_mem
  rw [h.counters_foldl, hnone, if_pos hj]
  exact congrArg (r.counters[j] + ·) (BitVec.add_zero _)

/-- The counter of a reason. -/
theorem CountsRejected.counters_reason (h : CountsRejected extra count) (cs : List Card) (r : LaneRec) {why : Reason}
    (hw : why.counter ∉ 2 :: extra) :
    (cs.foldl (fun r c => count c r) r).counters[why.counter] = r.counters[why.counter] + BitVec.ofNat 32 (firstReasons cs why) := by
  have hsame : cs.countP (fun c => c.firstReason.map Reason.counter = some why.counter) = firstReasons cs why := by
    refine List.countP_congr fun c _ => ?_
    simp only [decide_eq_true_eq, Option.map_eq_some_iff]
    exact ⟨fun ⟨x, hx, he⟩ => by rw [hx, Reason.counter_injective he], fun hx => ⟨why, hx, rfl⟩⟩
  rw [h.counters_foldl, hsame, if_neg hw]
  exact congrArg (r.counters[why.counter] + ·) (BitVec.zero_add _)

/-- A counter that is none of these. -/
theorem CountsRejected.counters_other (h : CountsRejected extra count) (cs : List Card) (r : LaneRec) {j : Fin 21} (hj : j ∉ 2 :: extra)
    (hr : j ∉ reasonCounters) : (cs.foldl (fun r c => count c r) r).counters[j] = r.counters[j] := by
  have hnone : cs.countP (fun c => c.firstReason.map Reason.counter = some j) = 0 := by
    rw [List.countP_eq_zero]
    intro c _ hc
    obtain ⟨why, -, rfl⟩ := Option.map_eq_some_iff.1 (of_decide_eq_true hc)
    exact hr why.counter_mem
  rw [h.counters_foldl, hnone, if_neg hj]
  simp

end

/-! ## Latching -/

theorem State.lane_latchLane_self (s : State) (l : Lane) (a : LaneAlarm) (d : List Byte) :
    (s.latchLane l a d).lane l = { s.lane l with alarms := latchedLane (s.lane l) a d } :=
  s.lane_updLane_self l (fun r => { r with alarms := r.alarms.set a.place ((s.lane l).alarms[a.place].set d) })

theorem State.lane_latchLane_ne (s : State) {l m : Lane} (a : LaneAlarm) (d : List Byte) (h : l ≠ m) :
    (s.latchLane l a d).lane m = s.lane m :=
  s.lane_updLane_ne (fun r => { r with alarms := r.alarms.set a.place ((s.lane l).alarms[a.place].set d) }) h

@[simp] theorem State.entry_latchLane (s : State) (l : Lane) (a : LaneAlarm) (d : List Byte) (b : Bank) (n : EntryNo) :
    (s.latchLane l a d).entry b n = s.entry b n := by cases b <;> rfl

end Sys2Proof.Machine
end

section
/-! PROOFS. The gate's entries: confirmed by the gate's count (R83, R121, R122), or expired at stage 2 (R123). -/

namespace Sys2Proof.Proofs

open Sys2Proof.Machine Sys2Proof.Safety

/-! ## Expiry at stage 2 -/

/-- Stage 2 with an entry due: the due entries are taken off the gate list, counted and freed, and the first of them is latched. -/
theorem stage2_of_due {k : Index} {l : Lane} {s : State} {c : Card} {cs : List Card} (hs : (s.lane l).state ≠ .idle)
    (h : s.gate.filter (fun c => c.lane = l && expiredAt s.map.g k c) = c :: cs) :
    stage2 k l s = ((s.withGate (s.gate.filter (fun c => !(c.lane = l && expiredAt s.map.g k c)))).release Card.lane
      LaneRec.countExpired (c :: cs)).latchLane l .rejectUnconfirmed (bytes24 c.serial ++ bytes16 (c.gateIndex.getD 0)) := by
  unfold stage2
  rw [if_neg hs]
  simp only [h, State.removeGate_eq]

theorem stage2_of_none {k : Index} {l : Lane} {s : State}
    (h : s.gate.filter (fun c => c.lane = l && expiredAt s.map.g k c) = []) : stage2 k l s = s := by
  unfold stage2
  simp only [h, ite_self]

/-- An entry with a gate index is expired when the end of its window is reached (R123). -/
theorem expiredAt_eq {g : Nat} {k : Index} {c : Card} (h : c.gateIndex.isSome = true) :
    expiredAt g k c = reached (c.gateIndex.getD 0 + BitVec.ofNat 16 g) k := by
  obtain ⟨i, hi⟩ := Option.isSome_iff_exists.1 h
  rw [expiredAt, hi]
  rfl

/-- Settles O22: the entries due are those the model expires, as every entry has a gate index; they are all of the lane, so the counts
are the lane's. -/
theorem gateEntriesExpire : Obligations.GateEntriesExpire := by
  intro k l s
  refine ⟨fun hs => by unfold stage2; rw [if_pos hs], fun hs hg => ?_⟩
  have hdue : ∀ c ∈ s.gate, (decide (c.lane = l) && reached (c.gateIndex.getD 0 + BitVec.ofNat 16 s.map.g) k) =
      (decide (c.lane = l) && expiredAt s.map.g k c) := fun c hc => by rw [expiredAt_eq (hg c hc)]
  intro due out t
  have hout : s.gate.filter (fun c => c.lane = l && expiredAt s.map.g k c) = out := (List.filter_congr hdue).symm
  have hkept : s.gate.filter (fun c => !(c.lane = l && expiredAt s.map.g k c)) = s.gate.filter (fun c => !due c) :=
    List.filter_congr fun c hc => congrArg (!·) (hdue c hc).symm
  cases hcs : out with
  | nil =>
    have ht : t = s := stage2_of_none (hout.trans hcs)
    have hgate : s.gate.filter (fun c => !due c) = s.gate :=
      List.filter_eq_self.2 fun c hc => by simpa using List.filter_eq_nil_iff.1 hcs c hc
    rw [ht, hgate]
    exact ⟨rfl, by simp, fun _ _ => rfl, fun i _ => (BitVec.add_zero _).symm, fun r => (BitVec.add_zero _).symm, fun _ _ => rfl,
      fun _ => rfl, by simp, rfl⟩
  | cons c cs =>
    have ht : t = _ := stage2_of_due hs (hout.trans hcs)
    rw [hkept, ← hcs] at ht
    have hlanes : ∀ x ∈ out, x.lane = l := fun x hx => by
      have := (List.mem_filter.1 hx).2
      simp only [due, Bool.and_eq_true, decide_eq_true_eq] at this
      exact this.1
    have hown := State.lane_release_self (s.withGate (s.gate.filter (fun c => !due c))) LaneRec.countExpired hlanes
    have hothers := fun m => State.lane_release_ne (m := m) (s.withGate (s.gate.filter (fun c => !due c))) LaneRec.countExpired hlanes
    have hframe := LaneRec.foldl_frame countsRejected_countExpired.frame out (s.lane l)
    have hlane : t.lane l = { out.foldl (fun r c => r.countExpired c) (s.lane l) with
        alarms := latchedLane (s.lane l) .rejectUnconfirmed (bytes24 c.serial ++ bytes16 (c.gateIndex.getD 0)) } := by
      rw [ht, State.lane_latchLane_self, hown, State.lane_withGate, hframe]
      rfl
    rw [← hcs]
    refine ⟨by rw [ht]; simp, by rw [ht]; simp, fun m hm => ?_, fun i hi => ?_, fun r => ?_, fun i hi => ?_, by simp [hcs],
      fun d ds hd => ?_, ?_⟩
    · rw [ht, State.lane_latchLane_ne _ _ _ hm.symm, hothers m hm.symm, State.lane_withGate]
    · rw [hlane]
      exact countsRejected_countExpired.counters_every out (s.lane l) (by revert i; decide) (by revert i; decide)
    · rw [hlane]
      exact countsRejected_countExpired.counters_reason out (s.lane l) (by cases r <;> decide)
    · rw [hlane]
      exact countsRejected_countExpired.counters_other out (s.lane l) (by revert i; decide) (by revert i; decide)
    · obtain ⟨rfl, rfl⟩ : c = d ∧ cs = ds := by simpa [hcs] using hd
      rw [hlane]
    · rw [hlane, hframe]

end Sys2Proof.Proofs
end

section
/-! PROOFS. The gate's count: the count as it stands in the frame, the entries it confirms, and the excess (R83, R121, R122). -/

namespace Sys2Proof.Proofs

open Sys2Proof.Machine Sys2Proof.Safety

/-! ## The gate's count -/

/-- The tag of a slot is its first byte in the frame (R153). -/
theorem slotTag_slotBytes (f : Frame) (i : Nat) : slotTag (slotBytes f i) = byteAt f (8 + 16 * i) := by
  simp [slotTag, slotBytes, byteAt]

/-- A payload begins behind the tag and the writer (R153). -/
theorem natAt_slotPayload (slot : List Byte) (i : Nat) : natAt (slotPayload slot) i = natAt slot (2 + i) := by
  simp [natAt, byteAt, slotPayload]

theorem rejectsSeen_of_slot {f : Frame} {l : Lane} {s : State} {i : Nat} (h : s.slotOf (.report .gate l) = some i) :
    s.rejectsSeen f l = if i < slotCount f ∧ byteAt f (8 + 16 * i) = 0x24 then natAt (slotBytes f i) 2 else 0 := by
  unfold State.rejectsSeen State.reportSlot
  rw [h]
  by_cases hi : i < slotCount f
  · simp [hi, slotTag_slotBytes, Kind.reportTag, natAt_slotPayload]
  · simp [hi, slotTag, byteAt, Kind.reportTag]

theorem rejectsSeen_of_none {f : Frame} {l : Lane} {s : State} (h : s.slotOf (.report .gate l) = none) : s.rejectsSeen f l = 0 := by
  unfold State.rejectsSeen State.reportSlot
  rw [h]
  simp [slotTag, byteAt, Kind.reportTag]

/-- What an excess of `d` rejects over the lane's gate entries does to its record at index `k` (R122). -/
def excessRejects (k : Index) (d : Nat) (r : LaneRec) : LaneRec :=
  if 0 < d then
    { r.bump 19 d with
      alarms := if r.blindAnswer then r.alarms else latchedLane r .unexpectedReject (byteOf (min d 255) :: bytes16 k) }
  else r

theorem counters_excessRejects (k : Index) (d : Nat) (r : LaneRec) (j : Fin 21) :
    (excessRejects k d r).counters[j] = r.counters[j] + if 19 = j then BitVec.ofNat 32 d else 0 := by
  unfold excessRejects
  split
  · exact LaneRec.counters_bump r 19 j d
  · next h =>
    obtain rfl : d = 0 := by omega
    rw [show (if (19 : Fin 21) = j then BitVec.ofNat 32 0 else 0) = 0 from ite_self _]
    exact (BitVec.add_zero _).symm

theorem alarms_excessRejects (k : Index) (d : Nat) (r : LaneRec) :
    (excessRejects k d r).alarms = if 0 < d ∧ r.blindAnswer = false
      then latchedLane r .unexpectedReject (byteOf (min d 255) :: bytes16 k) else r.alarms := by
  unfold excessRejects
  cases hb : r.blindAnswer <;> by_cases hd : 0 < d <;> simp [hd]

theorem excessRejects_frame (k : Index) (d : Nat) (r : LaneRec) :
    { excessRejects k d r with counters := r.counters, alarms := r.alarms } = r := by
  unfold excessRejects
  split <;> rfl

/-- Counting and latching an excess changes the lane's record alone (R122). -/
theorem excess_eq (l : Lane) (k : Index) (d : Nat) (hd : 0 < d) (u : State) :
    let w := u.updLane l (LaneRec.bump 19 d)
    let t := if (w.lane l).blindAnswer then w else w.latchLane l .unexpectedReject (byteOf (min d 255) :: bytes16 k)
    t.gate = u.gate ∧ t.free = u.free ∧ (∀ b e, t.entry b e = u.entry b e) ∧ (∀ m, l ≠ m → t.lane m = u.lane m) ∧
      t.lane l = excessRejects k d (u.lane l) := by
  intro w t
  have hwl : w.lane l = (u.lane l).bump 19 d := u.lane_updLane_self l _
  have hwm : ∀ m, l ≠ m → w.lane m = u.lane m := fun m hm => u.lane_updLane_ne _ hm
  have hwe : ∀ b e, w.entry b e = u.entry b e := fun b e => State.entry_updLane ..
  have hblind : (w.lane l).blindAnswer = (u.lane l).blindAnswer := by rw [hwl]; rfl
  unfold excessRejects
  rw [if_pos hd]
  by_cases hb : (w.lane l).blindAnswer = true
  · have ht : t = w := if_pos hb
    rw [ht, hwl, if_pos (hblind ▸ hb)]
    exact ⟨rfl, rfl, hwe, hwm, rfl⟩
  · have ht : t = w.latchLane l .unexpectedReject (byteOf (min d 255) :: bytes16 k) := if_neg hb
    rw [ht, State.lane_latchLane_self, hwl, if_neg (hblind ▸ hb)]
    exact ⟨rfl, rfl, fun b e => (State.entry_latchLane ..).trans (hwe b e), fun m hm => (State.lane_latchLane_ne _ _ _ hm).trans (hwm m hm),
      rfl⟩

/-- Applying the gate's count is confirming, and then the excess (R121, R122). -/
theorem applyGateCount_eq (l : Lane) (k : Index) (n : Nat) (s : State) :
    let u := s.confirm l (min n (s.gateOf l).length)
    let t := s.applyGateCount l k n
    t.gate = u.gate ∧ t.free = u.free ∧ (∀ b e, t.entry b e = u.entry b e) ∧ (∀ m, l ≠ m → t.lane m = u.lane m) ∧
      t.lane l = excessRejects k (n - (s.gateOf l).length) (u.lane l) := by
  unfold State.applyGateCount
  intro u
  by_cases h : (s.gateOf l).length < n
  · simp only [if_pos h]
    exact excess_eq l k _ (Nat.sub_pos_of_lt h) u
  · simp only [if_neg h, excessRejects, if_neg (show ¬ 0 < n - (s.gateOf l).length by omega)]
    exact ⟨rfl, rfl, fun _ _ => rfl, fun _ _ => rfl, rfl⟩

/-- Settles O21: the entries confirmed are counted in the lane and freed, and what the excess adds touches two fields of the record. -/
theorem gateCountConfirms : Obligations.GateCountConfirms := by
  refine ⟨rfl, fun f l s => ?_, fun l k n s => ?_⟩
  · have hslot : ∀ i : Fin 48, (s.slotMap[i] = .report .gate l ∧ ∀ j : Fin 48, j < i → s.slotMap[j] ≠ .report .gate l) →
        s.slotOf (.report .gate l) = some i.val := fun i h => s.slotOf_eq_some _ i h.1 h.2
    refine ⟨fun i hm hi ht => ?_, fun i hm hi ht => ?_, fun i hm hi => ?_, fun h => rejectsSeen_of_none (s.slotOf_eq_none _ h)⟩
    · rw [rejectsSeen_of_slot (hslot i hm), if_pos ⟨hi, ht⟩]
      rfl
    · rw [rejectsSeen_of_slot (hslot i hm), if_neg (fun h => ht h.2)]
    · rw [rejectsSeen_of_slot (hslot i hm), if_neg (fun h => absurd h.1 (Nat.not_lt.2 hi))]
  · intro es out t
    obtain ⟨hgate, hfree, hentry, hothers, hown⟩ := applyGateCount_eq l k n s
    obtain ⟨gate, hconfirmed, heq⟩ := s.confirm_eq l (min n es.length)
    have hout : es.take (min n es.length) = out := by simp [out, List.take_eq_take_iff]
    have hdrop : es.drop (min n es.length) = es.drop n := by simp [List.drop_eq_drop_iff]
    rw [show (s.gateOf l).take (min n es.length) = out from hout] at heq
    have hall : ∀ c ∈ out, (fun _ : Card => l) c = l := fun _ _ => rfl
    rw [heq] at hgate hfree hentry hothers hown
    rw [State.release_gate, State.withGate_gate] at hgate
    rw [State.lane_release_self _ _ hall, State.lane_withGate] at hown
    have hframe := LaneRec.foldl_frame countsRejected_countRejected.frame out (s.lane l)
    generalize hr : out.foldl (fun r c => r.countRejected c) (s.lane l) = r at hown hframe
    have hcounters : ∀ j : Fin 21, (t.lane l).counters[j] = r.counters[j] + if 19 = j then BitVec.ofNat 32 (n - es.length) else 0 :=
      fun j => by rw [show t.lane l = _ from hown]; exact counters_excessRejects _ _ _ _
    have hnone : ∀ j : Fin 21, j ≠ 19 → (t.lane l).counters[j] = r.counters[j] := fun j hj => by
      rw [hcounters, if_neg hj.symm]
      exact BitVec.add_zero _
    refine ⟨?_, fun m hm => ⟨?_, ?_⟩, ?_, fun b e => ?_, ?_, fun why => ?_, ?_, fun i hi => ?_, ?_, ?_⟩
    · exact (congrArg (ofLane l) hgate).trans (hconfirmed.own.trans hdrop)
    · exact (congrArg (ofLane m) hgate).trans (hconfirmed.others m hm)
    · rw [show t.lane m = _ from hothers m hm.symm, State.lane_release_ne _ _ hall hm.symm, State.lane_withGate]
    · rw [show t.free = _ from hfree, State.release_free, State.withGate_free]
    · rw [show t.entry b e = _ from hentry b e, State.entry_release, State.entry_withGate]
    · refine (hnone 2 (by decide)).trans ?_
      rw [← hr]
      exact countsRejected_countRejected.counters_every out (s.lane l) (by decide) (by decide)
    · rw [hnone _ (by cases why <;> decide), ← hr]
      exact countsRejected_countRejected.counters_reason out (s.lane l) (by cases why <;> decide)
    · refine (hcounters 19).trans ?_
      rw [if_pos rfl, ← hr, countsRejected_countRejected.counters_other out (s.lane l) (by decide) (by decide)]
      rfl
    · rw [hnone _ (by revert i; decide), ← hr]
      exact countsRejected_countRejected.counters_other out (s.lane l) (by revert i; decide) (by revert i; decide)
    · rw [show t.lane l = _ from hown, alarms_excessRejects, hframe]
      simp only [Nat.sub_pos_iff_lt]
      rfl
    · rw [show t.lane l = _ from hown]
      have hexcess := excessRejects_frame k (n - es.length) r
      rw [hframe] at hexcess ⊢
      exact congrArg (fun q : LaneRec => { q with counters := (s.lane l).counters, alarms := (s.lane l).alarms }) hexcess

end Sys2Proof.Proofs
end

section
/-! PROOFS. The step, and what creating a card, freeing its record and adding a reason do (R21, R24, R27, R29). -/

namespace Sys2Proof.Proofs

open Sys2Proof.Machine Sys2Proof.Safety

/-- Settles O1, by the definition of a step. -/
theorem stepRunsFrontCommand : Obligations.StepRunsFrontCommand := by
  intro c rest s h
  unfold step
  rw [h]

/-! ## Card records -/

/-- The card a lane forms from a record number (R29). -/
def newCard (s : State) (l : Lane) (k : Index) (n : RecordNo) : Card :=
  { record := n, serial := s.serial, lane := l, formed := k, bank := s.active, entry := (s.lane l).assigned,
    sku := (s.entry s.active (s.lane l).assigned).fields.sku, commanded := ⟨false, false, false, false⟩, loadResult := none,
    inspection := none, placed := none, sealRec := none, reasons := [], gateIndex := none }

/-- The lane's new card at the tail of its web list, its record off the free list and its serial used (R29, R30). -/
def webCard (s : State) (l : Lane) (k : Index) (n : RecordNo) (rest : List RecordNo) : State :=
  ({ s with free := rest, serial := s.serial + 1 } : State).updLane l
    (fun r => ({ r with web := r.web ++ [newCard s l k n] } : LaneRec).bump 0 1)

theorem createCard_of_free {k : Index} {l : Lane} {s : State} {n : RecordNo} {rest : List RecordNo} (h : s.free = n :: rest) :
    s.createCard l k = (webCard s l k n rest).updRefs s.active (s.lane l).assigned (· + 1) := by
  unfold State.createCard
  rw [h]
  rfl

/-- Changing a reference count changes the banks alone. -/
theorem updRefs_frame (s : State) (b : Bank) (n : EntryNo) (f : Nat → Nat) :
    { s.updRefs b n f with bankA := s.bankA, bankB := s.bankB } = s := by cases b <;> rfl

/-- The web cards of all lanes, in lane order. -/
theorem inUse_eq (s : State) : s.inUse = s.gate ++ [0, 1, 2, 3, 4, 5].flatMap (fun m : Lane => (s.lane m).web) := rfl

theorem stage5_of_run {k : Index} {l : Lane} {s : State} (h : (s.lane l).state = .run) : stage5 k l s = s.createCard l k := if_pos h

/-- Adding a reason leaves the first reason, where there is one (R21). -/
theorem firstReason_addReason (c : Card) (r : Reason) : (c.addReason r).firstReason = some (c.firstReason.getD r) := by
  unfold Card.firstReason
  rw [Card.reasons_addReason]
  cases hc : c.reasons with
  | nil => rfl
  | cons x xs =>
    split
    · rfl
    · rfl

theorem mem_reasons_addReason (c : Card) (r x : Reason) : x ∈ (c.addReason r).reasons ↔ x ∈ c.reasons ∨ x = r := by
  rw [Card.reasons_addReason]
  split
  · next h => exact ⟨.inl, fun hx => hx.elim id (fun e => e ▸ h)⟩
  · simp

/-- Settles O18: the card created and the record freed, field by field, and the reason added. -/
theorem cardRecordOperations : Obligations.CardRecordOperations := by
  refine ⟨fun l s => ⟨rfl, inUse_eq s⟩, ⟨fun k l s n rest hrun hfree => ?_, fun k l s h => if_neg h, fun c s => ?_⟩, fun c r => ?_⟩
  · intro t a
    have ht : t = _ := (stage5_of_run hrun).trans (createCard_of_free hfree)
    have hown : t.lane l = ({ s.lane l with web := (s.lane l).web ++ [newCard s l k n] } : LaneRec).bump 0 1 := by
      rw [ht, State.lane_updRefs]
      exact State.lane_updLane_self ..
    refine ⟨by rw [hown]; rfl, by rw [ht]; simp [webCard], by rw [ht]; simp [webCard], fun i => ?_, by rw [hown]; rfl,
      fun m hm => ?_, fun b e => ?_, ?_⟩
    · rw [hown, LaneRec.counters_bump]
      simp only [eq_comm]
      rfl
    · rw [ht, State.lane_updRefs]
      exact State.lane_updLane_ne _ _ hm.symm
    · rw [ht, State.entry_updRefs, webCard, State.entry_updLane]
      simp only [eq_comm]
      cases b <;> (split <;> rfl)
    · rw [ht]
      have hbanks := updRefs_frame (webCard s l k n rest) s.active (s.lane l).assigned (· + 1)
      exact (congrArg (fun u : State => ({ u with lanes := s.lanes, free := s.free, serial := s.serial, bankA := s.bankA, bankB := s.bankB }
        : State)) hbanks :)
  · intro t
    refine ⟨State.freeRecord_free s c, fun b e => ?_, ?_⟩
    · rw [State.entry_freeRecord]
      simp only [eq_comm]
      split <;> rfl
    · have hbanks := updRefs_frame s c.bank c.entry (· - 1)
      exact (congrArg (fun u : State => ({ u with free := s.free } : State)) hbanks :)
  · exact ⟨rfl, firstReason_addReason c r, mem_reasons_addReason c r, Card.nodup_addReason r c, by rw [Card.addReason_eq]⟩

end Sys2Proof.Proofs
end

section
/-! PROOFS. The punch decision and stage 4 (R117 to R120, R128). -/

namespace Sys2Proof.Proofs

open Sys2Proof.Machine Sys2Proof.Safety

/-! ## The events of a passed card -/

/-- The blind-answer flag has no part in the events of a passed card. -/
theorem passEvents_blindAnswer (r : LaneRec) (b : Bool) (c : Card) (recipe : Recipe) :
    ({ r with blindAnswer := b } : LaneRec).passEvents c recipe =
      ({ (r.passEvents c recipe).1 with blindAnswer := b }, (r.passEvents c recipe).2) := by
  unfold LaneRec.passEvents
  cases h : r.openBatch with
  | none => simp only [h]; split <;> rfl
  | some open' =>
    by_cases hb : open'.sku = c.sku
    · simp only [if_pos hb, h]; split <;> rfl
    · simp only [if_neg hb, LaneRec.bump_openBatch]; split <;> rfl

/-- The events raise no counter but that of the batches closed (R126). -/
theorem counters_passEvents (r : LaneRec) (c : Card) (recipe : Recipe) {j : Fin 21} (hj : j ≠ 20) :
    (r.passEvents c recipe).1.counters[j] = r.counters[j] := by
  have hbump : ∀ q : LaneRec, (q.bump 20 1).counters[j] = q.counters[j] := fun q => by
    rw [LaneRec.counters_bump, if_neg hj.symm]
    exact BitVec.add_zero _
  unfold LaneRec.passEvents
  cases h : r.openBatch with
  | none =>
    simp only [h]
    split
    · exact hbump _
    · rfl
  | some b =>
    by_cases hb : b.sku = c.sku
    · simp only [if_pos hb, h]
      split
      · exact hbump _
      · rfl
    · simp only [if_neg hb, LaneRec.bump_openBatch]
      split
      · exact (hbump _).trans (hbump r)
      · exact hbump r

/-! ## The decision -/

theorem punch_of_blind {k : Index} {l : Lane} {s : State} (h : 0 < (s.lane l).blind) :
    s.punch k l = (s.updLane l (fun r => { r with blind := r.blind - 1, blindAnswer := true }.planGate true 0 none), []) := if_pos h

/-- The state the decision starts from out of a blind window: the blind-answer flag is cleared (R120). -/
def answered (s : State) (l : Lane) : State := s.updLane l (fun r => { r with blindAnswer := false })

/-- Out of a blind window the head of the web list decides (R117). -/
theorem punch_of_open {k : Index} {l : Lane} {s : State} (h : (s.lane l).blind = 0) :
    s.punch k l =
      match (s.lane l).web with
      | [] => (answered s l, [])
      | c :: _ =>
        if c.position k = s.map.e then
          if c.reasons = [] ∧ (s.lane l).force = false then (answered s l).passAtPunch l c else ((answered s l).rejectAtPunch k l c, [])
        else (answered s l, []) := by
  unfold State.punch
  rw [if_neg (by omega)]
  simp only [State.lane_updLane_self]
  rfl

theorem punch_of_blank {k : Index} {l : Lane} {s : State} (h : (s.lane l).blind = 0)
    (hpos : ∀ c ∈ (s.lane l).web.head?, c.position k ≠ s.map.e) : s.punch k l = (answered s l, []) := by
  rw [punch_of_open h]
  split
  · rfl
  · next c rest hw => exact if_neg (hpos c (by simp [hw]))

theorem punch_of_card {k : Index} {l : Lane} {s : State} {c : Card} {rest : List Card} (h : (s.lane l).blind = 0)
    (hw : (s.lane l).web = c :: rest) (hpos : c.position k = s.map.e) :
    s.punch k l = if c.reasons = [] ∧ (s.lane l).force = false then (answered s l).passAtPunch l c
      else ((answered s l).rejectAtPunch k l c, []) := by
  rw [punch_of_open h, hw]
  exact if_pos hpos

theorem position_eq_indexDistance (c : Card) (k : Index) : c.position k = indexDistance c.formed k := (indexDistance_eq ..).symm

/-- A card passed at the punch is taken off the web list and freed, its lane's record as the events leave it (R119). -/
theorem passAtPunch_eq {l : Lane} {s : State} {c : Card} {rest : List Card} (hw : (s.lane l).web = c :: rest) :
    (answered s l).passAtPunch l c =
      (((answered s l).setLane l
        ((({ ((s.lane l).passEvents c (s.recipeOf c)).1 with web := rest, blindAnswer := false } : LaneRec).bump 1 1).planGate
          false c.serial none)).freeRecord c, ((s.lane l).passEvents c (s.recipeOf c)).2) := by
  have hweb : ((s.lane l).passEvents c (s.recipeOf c)).1.web = c :: rest :=
    (congrArg Track.web (LaneRec.track_passEvents c (s.recipeOf c) (s.lane l) [])).trans hw
  have hrecipe : (answered s l).recipeOf c = s.recipeOf c := congrArg Entry.fields (State.entry_updLane ..)
  have hlane : (answered s l).lane l = { s.lane l with blindAnswer := false } := State.lane_updLane_self ..
  unfold State.passAtPunch
  simp only [hrecipe, hlane, passEvents_blindAnswer, hweb]
  rfl

/-- A card rejected at the punch is taken off the web list and joins the gate list, FORCED added where the force flag is set (R118). -/
theorem rejectAtPunch_eq {k : Index} {l : Lane} {s : State} {c : Card} {rest : List Card} (hw : (s.lane l).web = c :: rest) :
    (answered s l).rejectAtPunch k l c =
      { s.setLane l (({ s.lane l with web := rest, blindAnswer := false } : LaneRec).planGate true c.serial
          (c.addReasonIf (s.lane l).force .forced).firstReason) with
        gate := s.gate ++ [{ c.addReasonIf (s.lane l).force .forced with gateIndex := some k }] } := by
  have hlane : (answered s l).lane l = { s.lane l with blindAnswer := false } := State.lane_updLane_self ..
  unfold State.rejectAtPunch
  simp only [hlane, Card.addReasonIf_serial]
  unfold answered
  rw [State.updLane_updLane]
  unfold State.updLane
  simp only [hw]
  rfl

/-- Settles O25: the branches of the punch decision one by one; stage 4 adds the stack command to what it leaves. -/
theorem punchDecision : Obligations.PunchDecision := by
  intro k l s r t gate
  refine ⟨?_, fun hb => ?_, fun hb hpos => ?_, fun c rest hb hw hpos => ?_⟩
  · unfold stage4
    cases hheld : r.held with
    | none => simp only [show (s.lane l).held = none from hheld]; rfl
    | some e => simp only [show (s.lane l).held = some e from hheld]; rfl
  · rw [punch_of_blind hb]
    rfl
  · refine punch_of_blank hb fun c hc => ?_
    rw [position_eq_indexDistance]
    exact hpos c hc
  have hpunch := punch_of_card hb hw ((position_eq_indexDistance c k).trans hpos)
  refine ⟨fun hreject => ?_, fun hreasons hforce => ?_⟩
  · intro d
    have hne : ¬ (c.reasons = [] ∧ (s.lane l).force = false) := fun h =>
      hreject.elim (· h.1) (fun hf => absurd (hf.symm.trans h.2) (by simp))
    rw [hpunch, if_neg hne, rejectAtPunch_eq hw]
    rfl
  · replace hpunch := hpunch.trans ((if_pos ⟨hreasons, hforce⟩).trans (passAtPunch_eq hw))
    have ht : t = _ := congrArg Prod.fst hpunch
    have hpassed : (((s.lane l).passEvents c (s.recipeOf c)).1.counters[1] : Counter) = (s.lane l).counters[1] :=
      counters_passEvents (s.lane l) c (s.recipeOf c) (j := 1) (by decide)
    refine ⟨congrArg Prod.snd hpunch, by rw [ht]; simp [answered], by rw [ht]; simp [answered], fun m hm => ?_, ?_, fun b e => ?_⟩
    · rw [ht, State.lane_freeRecord, State.lane_setLane_ne _ _ hm.symm]
      exact State.lane_updLane_ne _ _ hm.symm
    · rw [ht, State.lane_freeRecord, State.lane_setLane_self, LaneRec.bump]
      exact congrArg (fun n : Counter => gate { (r.passEvents c (s.recipeOf c)).1 with
        web := rest, blindAnswer := false, counters := (r.passEvents c (s.recipeOf c)).1.counters.set 1 (n + 1) } false c.serial none) hpassed
    · rw [ht, State.entry_freeRecord, State.entry_setLane, answered, State.entry_updLane]
      simp only [eq_comm]
      split <;> rfl

end Sys2Proof.Proofs
end

section
/-! PROOFS. Lost track: every record freed, and every lane not IDLE taken to FAULT (R28, R139, R140). -/

namespace Sys2Proof.Machine

open Sys2Proof.Safety

/-! ## What is done lane by lane -/

/-- Something done for lanes one after another, which changes each lane's record by itself, is done once to each of them. -/
theorem State.lane_foldl_local {P : State → Prop} {f : State → Lane → State} {g : Lane → LaneRec → LaneRec}
    (hP : ∀ t l, P t → P (f t l)) (hown : ∀ t l, P t → (f t l).lane l = g l (t.lane l))
    (hothers : ∀ t l m, P t → l ≠ m → (f t l).lane m = t.lane m) {ls : List Lane} (hn : ls.Nodup) {s : State} (hs : P s) (m : Lane) :
    (ls.foldl f s).lane m = if m ∈ ls then g m (s.lane m) else s.lane m := by
  induction ls generalizing s with
  | nil => rfl
  | cons l ls ih =>
    obtain ⟨hl, hn⟩ := List.nodup_cons.1 hn
    rw [List.foldl_cons, ih hn (hP s l hs)]
    by_cases hm : l = m
    · subst hm
      simp [hl, hown s l hs]
    · rw [hothers s l m hs hm]
      simp [List.mem_cons, Ne.symm hm]

theorem State.lane_eachLane_local {P : State → Prop} {f : Lane → State → State} {g : Lane → LaneRec → LaneRec}
    (hP : ∀ l t, P t → P (f l t)) (hown : ∀ l t, P t → (f l t).lane l = g l (t.lane l))
    (hothers : ∀ l m t, P t → l ≠ m → (f l t).lane m = t.lane m) {s : State} (hs : P s) (m : Lane) :
    (s.eachLane f).lane m = g m (s.lane m) :=
  (State.lane_foldl_local (fun t l => hP l t) (fun t l => hown l t) (fun t l m => hothers l m t) (List.nodup_finRange 6) hs m).trans
    (if_pos (List.mem_finRange m))

/-! ## The web lists -/

/-- A lane's record after its web cards are lost: the list is empty, and each card is counted (R139). -/
def LaneRec.lost (r : LaneRec) : LaneRec := r.web.foldl (fun r _ => r.bump 16 1) { r with web := [] }

theorem LaneRec.lost_frame (r : LaneRec) : r.lost = { r with web := [], counters := r.lost.counters } :=
  LaneRec.foldl_frame (count := fun _ => LaneRec.bump 16 1) (fun _ _ => rfl) r.web { r with web := [] }

theorem LaneRec.counters_lost (r : LaneRec) (j : Fin 21) :
    r.lost.counters[j] = r.counters[j] + if 16 = j then BitVec.ofNat 32 r.web.length else 0 := by
  refine (LaneRec.counters_foldl (count := fun _ => LaneRec.bump 16 1) (adds := fun _ => if 16 = j then 1 else 0)
    (fun _ r => r.counters_bump 16 j 1) r.web { r with web := [] }).trans (congrArg (r.counters[j] + ·) ?_)
  rw [sum_map_one (fun _ => 16 = j)]
  by_cases h : 16 = j <;> simp [h]

@[simp] theorem State.free_loseWeb (s : State) (l : Lane) : (s.loseWeb l).free = s.free ++ (s.lane l).web.map Card.record := by
  rw [State.loseWeb_eq, State.release_free]
  rfl

@[simp] theorem State.gate_loseWeb (s : State) (l : Lane) : (s.loseWeb l).gate = s.gate := by
  rw [State.loseWeb_eq, State.release_gate]
  rfl

theorem State.entry_loseWeb (s : State) (l : Lane) (b : Bank) (n : EntryNo) : (s.loseWeb l).entry b n =
    { s.entry b n with refs := (s.entry b n).refs - (s.lane l).web.countP (fun c => c.bank = b ∧ c.entry = n) } := by
  rw [State.loseWeb_eq, State.entry_release, State.entry_updLane]

theorem State.lane_loseWeb_self (s : State) (l : Lane) : (s.loseWeb l).lane l = (s.lane l).lost := by
  rw [State.loseWeb_eq, State.lane_release_self _ _ (fun _ _ => rfl), State.lane_updLane_self]
  rfl

theorem State.lane_loseWeb_ne (s : State) {l m : Lane} (h : l ≠ m) : (s.loseWeb l).lane m = s.lane m := by
  rw [State.loseWeb_eq, State.lane_release_ne _ _ (fun _ _ => rfl) h, State.lane_updLane_ne _ _ h]

/-- The web lists of lanes lost one after another: their cards, in order, are freed. -/
theorem State.foldl_loseWeb {ls : List Lane} (hn : ls.Nodup) (s : State) :
    let cards := ls.flatMap (fun l => (s.lane l).web)
    let t := ls.foldl State.loseWeb s
    t.gate = s.gate ∧ t.free = s.free ++ cards.map Card.record ∧
      ∀ b n, t.entry b n = { s.entry b n with refs := (s.entry b n).refs - cards.countP (fun c => c.bank = b ∧ c.entry = n) } := by
  induction ls generalizing s with
  | nil => exact ⟨rfl, by simp, fun _ _ => rfl⟩
  | cons l ls ih =>
    obtain ⟨hl, hn⟩ := List.nodup_cons.1 hn
    have hrest : ls.flatMap (fun m => ((s.loseWeb l).lane m).web) = ls.flatMap (fun m => (s.lane m).web) :=
      List.flatMap_congr fun m hm => congrArg LaneRec.web (s.lane_loseWeb_ne (fun e => hl (e ▸ hm)))
    obtain ⟨hgate, hfree, hentry⟩ := ih hn (s.loseWeb l)
    rw [hrest] at hfree hentry
    refine ⟨hgate.trans (s.gate_loseWeb l), hfree.trans ?_, fun b n => (hentry b n).trans ?_⟩
    · rw [State.free_loseWeb, List.flatMap_cons, List.map_append, List.append_assoc]
    · rw [State.entry_loseWeb, List.flatMap_cons, List.countP_append]
      simp only [Nat.sub_sub]

/-! ## The lanes -/

/-- A lane's record after lost track (R140). -/
def LaneRec.trackLost (e : Nat) (last k : Index) (r : LaneRec) : LaneRec :=
  if r.state = .idle then r
  else { r.enterFault with blind := e, alarms := latchedLane r .trackLost (bytes16 last ++ bytes16 k) }

theorem LaneRec.trackLost_idle {r : LaneRec} (e : Nat) (last k : Index) (h : r.state = .idle) : r.trackLost e last k = r := if_pos h

/-- A lane not IDLE: entering FAULT drops the pending changeover, unless the lane is in FAULT already (R45, R46). -/
theorem LaneRec.trackLost_busy {r : LaneRec} (e : Nat) (last k : Index) (h : r.state ≠ .idle) :
    r.trackLost e last k = { r with
      state := .fault
      changeover := if r.state = .fault then r.changeover else none
      blind := e
      alarms := latchedLane r .trackLost (bytes16 last ++ bytes16 k) } := by
  unfold LaneRec.trackLost LaneRec.enterFault
  rw [if_neg h]
  cases hs : r.state with
  | idle => exact absurd hs h
  | run => rfl
  | drain => rfl
  | fault => simp [← hs]

theorem State.lane_loseLane_self (s : State) (last k : Index) (l : Lane) :
    (s.loseLane last k l).lane l = (s.lane l).trackLost s.map.e last k := by
  unfold State.loseLane LaneRec.trackLost
  split
  · rfl
  · rw [State.lane_latchLane_self, State.lane_updLane_self]
    unfold latchedLane
    simp only [LaneRec.enterFault_alarms]

theorem State.lane_loseLane_ne (s : State) (last k : Index) {l m : Lane} (h : l ≠ m) : (s.loseLane last k l).lane m = s.lane m := by
  unfold State.loseLane
  split
  · rfl
  · rw [State.lane_latchLane_ne _ _ _ h, State.lane_updLane_ne _ _ h]

/-- Taking a lane to FAULT touches no list, no entry and not the Station Map. -/
theorem State.loseLane_frame (s : State) (last k : Index) (l : Lane) :
    (s.loseLane last k l).gate = s.gate ∧ (s.loseLane last k l).free = s.free ∧ (s.loseLane last k l).map = s.map ∧
      ∀ b n, (s.loseLane last k l).entry b n = s.entry b n := by
  unfold State.loseLane
  split
  · exact ⟨rfl, rfl, rfl, fun _ _ => rfl⟩
  · exact ⟨rfl, rfl, rfl, fun b n => by rw [State.entry_latchLane, State.entry_updLane]⟩

end Sys2Proof.Machine

namespace Sys2Proof.Proofs

open Sys2Proof.Machine Sys2Proof.Safety

/-! ## Lost track -/

/-- The state when the gate list's records are freed. -/
def withoutGate (s : State) : State := s.removeGate (fun _ => true) LaneRec.countUnverified

/-- The state when every record is freed. -/
def withoutCards (s : State) : State := (withoutGate s).eachLane (fun l t => t.loseWeb l)

theorem withoutGate_eq (s : State) : withoutGate s = (s.withGate []).release Card.lane LaneRec.countUnverified s.gate := by
  rw [withoutGate, State.removeGate_eq]
  simp

theorem lane_withoutGate (s : State) (l : Lane) :
    (withoutGate s).lane l = (s.gateOf l).foldl (fun r c => r.countUnverified c) (s.lane l) := by
  rw [withoutGate_eq, State.lane_release]
  rfl

theorem web_withoutGate (s : State) (l : Lane) : ((withoutGate s).lane l).web = (s.lane l).web := by
  rw [lane_withoutGate, LaneRec.foldl_frame countsRejected_countUnverified.frame]

theorem lane_withoutCards (s : State) (l : Lane) : (withoutCards s).lane l = ((withoutGate s).lane l).lost := by
  have hown : ∀ (m : Lane) (t : State), True → (t.loseWeb m).lane m = (t.lane m).lost := fun m t _ => t.lane_loseWeb_self m
  have hothers : ∀ (m n : Lane) (t : State), True → m ≠ n → (t.loseWeb m).lane n = t.lane n := fun _ _ t _ h => t.lane_loseWeb_ne h
  exact State.lane_eachLane_local (fun _ _ _ => trivial) hown hothers trivial l

theorem map_withoutCards (s : State) : (withoutCards s).map = s.map := map_eq_of_port s.shrinks_loseCards.1

theorem lostTrack_eq (last k : Index) (s : State) : lostTrack last k s = (withoutCards s).eachLane (fun l t => t.loseLane last k l) := rfl

theorem lane_lostTrack (last k : Index) (s : State) (l : Lane) :
    (lostTrack last k s).lane l = ((withoutCards s).lane l).trackLost s.map.e last k := by
  rw [← map_withoutCards s, lostTrack_eq]
  exact State.lane_eachLane_local (P := fun t => t.map = (withoutCards s).map) (f := fun l t => t.loseLane last k l)
    (g := fun _ r => r.trackLost (withoutCards s).map.e last k)
    (fun l t h => (t.loseLane_frame last k l).2.2.1.trans h) (fun l t h => by rw [State.lane_loseLane_self, h])
    (fun _ _ t _ h => t.lane_loseLane_ne last k h) rfl l

/-- Taking the lanes to FAULT leaves the lists and the entries. -/
theorem lostTrack_lists (last k : Index) (s : State) :
    (lostTrack last k s).gate = (withoutCards s).gate ∧ (lostTrack last k s).free = (withoutCards s).free ∧
      ∀ b n, (lostTrack last k s).entry b n = (withoutCards s).entry b n := by
  rw [lostTrack_eq]
  refine State.eachLane_keeps (fun t => t.gate = (withoutCards s).gate ∧ t.free = (withoutCards s).free ∧
    ∀ b n, t.entry b n = (withoutCards s).entry b n) _ _ ⟨rfl, rfl, fun _ _ => rfl⟩ fun l t ⟨hgate, hfree, hentry⟩ => ?_
  obtain ⟨hg, hf, -, he⟩ := t.loseLane_frame last k l
  exact ⟨hg.trans hgate, hf.trans hfree, fun b n => (he b n).trans (hentry b n)⟩

/-- The lists and the entries after lost track: the gate list's records are freed first, and then the web lists' (R139). -/
theorem withoutCards_lists (s : State) :
    (withoutCards s).gate = [] ∧ (withoutCards s).free = s.free ++ s.inUse.map Card.record ∧
      ∀ b n, (withoutCards s).entry b n =
        { s.entry b n with refs := (s.entry b n).refs - s.inUse.countP (fun c => c.bank = b ∧ c.entry = n) } := by
  obtain ⟨hgate, hfree, hentry⟩ := (withoutGate s).foldl_loseWeb (List.nodup_finRange 6)
  have hwebs : (List.finRange 6).flatMap (fun l => ((withoutGate s).lane l).web) = (List.finRange 6).flatMap (fun l => (s.lane l).web) :=
    List.flatMap_congr fun l _ => web_withoutGate s l
  rw [hwebs] at hfree hentry
  refine ⟨hgate.trans ?_, hfree.trans ?_, fun b n => (hentry b n).trans ?_⟩
  · rw [withoutGate_eq, State.release_gate, State.withGate_gate]
  · rw [withoutGate_eq, State.release_free, State.withGate_free, State.inUse, List.map_append, List.append_assoc]
  · rw [withoutGate_eq, State.entry_release, State.entry_withGate, State.inUse, List.countP_append]
    simp only [Nat.sub_sub]

/-- A lane's record after lost track. -/
def afterLostTrack (e : Nat) (last k : Index) (entries : List Card) (r : LaneRec) : LaneRec :=
  ((entries.foldl (fun r c => r.countUnverified c) r).lost).trackLost e last k

theorem counters_trackLost (e : Nat) (last k : Index) (r : LaneRec) : (r.trackLost e last k).counters = r.counters := by
  unfold LaneRec.trackLost
  split
  · rfl
  · exact r.enterFault_counters

/-- The cards are lost before the lane is taken to FAULT, and change nothing of it but the web list and the counters. -/
theorem lost_entries_frame (entries : List Card) (r : LaneRec) :
    ∃ counters, (entries.foldl (fun r c => r.countUnverified c) r).lost = { r with web := [], counters := counters } := by
  rw [LaneRec.lost_frame, LaneRec.foldl_frame countsRejected_countUnverified.frame entries r]
  exact ⟨_, rfl⟩

/-- Settles O30: first every record is freed and counted in its lane, then each lane not IDLE is taken to FAULT. -/
theorem lostTrackFreesEverything : Obligations.LostTrackFreesEverything := by
  intro last k s t
  obtain ⟨hgate, hfree, hentry⟩ := lostTrack_lists last k s
  obtain ⟨hnone, hrecords, hrefs⟩ := withoutCards_lists s
  refine ⟨hgate.trans hnone, hfree.trans hrecords, fun b e => (hentry b e).trans (hrefs b e), fun l => ?_⟩
  intro r q
  have hq : q = afterLostTrack s.map.e last k (s.gateOf l) r := by
    rw [afterLostTrack, ← lane_withoutGate, ← lane_withoutCards]
    exact lane_lostTrack last k s l
  have hcounters : ∀ j : Fin 21, q.counters[j] = ((s.gateOf l).foldl (fun r c => r.countUnverified c) r).counters[j] +
      if 16 = j then BitVec.ofNat 32 r.web.length else 0 := fun j => by
    rw [hq, afterLostTrack, counters_trackLost, LaneRec.counters_lost,
      LaneRec.foldl_frame countsRejected_countUnverified.frame (s.gateOf l) r]
  have hown : ∀ j : Fin 21, j ≠ 16 → q.counters[j] = ((s.gateOf l).foldl (fun r c => r.countUnverified c) r).counters[j] := fun j hj => by
    rw [hcounters, if_neg hj.symm]
    exact BitVec.add_zero _
  obtain ⟨counters, hlost⟩ := lost_entries_frame (s.gateOf l) r
  have hrecord : q = ({ r with web := [], counters := counters } : LaneRec).trackLost s.map.e last k := by rw [hq, afterLostTrack, hlost]
  have hcount := countsRejected_countUnverified
  refine ⟨?_, ?_, fun why => ?_, ?_, ?_, fun i hi => ?_, fun hidle => ?_, fun hbusy => ?_⟩
  · rw [hrecord, LaneRec.trackLost]
    split
    · rfl
    · rw [LaneRec.enterFault_web]
  · exact (hown 2 (by decide)).trans (hcount.counters_every _ _ (by decide) (by decide))
  · exact (hown _ (by cases why <;> decide)).trans (hcount.counters_reason _ _ (by cases why <;> decide))
  · exact (hcounters 16).trans (by rw [if_pos rfl, hcount.counters_other _ _ (by decide) (by decide)]; rfl)
  · exact (hown 18 (by decide)).trans (hcount.counters_every _ _ (by decide) (by decide))
  · exact (hown i (by revert i; decide)).trans (hcount.counters_other _ _ (by revert i; decide) (by revert i; decide))
  · have hidle' : ({ r with web := [], counters := counters } : LaneRec).state = .idle := hidle
    rw [hrecord, LaneRec.trackLost_idle _ _ _ hidle']
  · have hbusy' : ({ r with web := [], counters := counters } : LaneRec).state ≠ .idle := hbusy
    rw [hrecord, LaneRec.trackLost_busy _ _ _ hbusy']
    rfl

end Sys2Proof.Proofs
end

section
/-! PROOFS. A cycle frame whole: the order of its parts, of the stages of its pitch steps and of its slots (R54 to R56, R132, R150). -/

namespace Sys2Proof.Machine

open Sys2Proof.Safety

/-! ## Plans -/

/-- A lane record changed in each lane. -/
theorem State.lane_eachLane_updLane (s : State) (f : LaneRec → LaneRec) (l : Lane) :
    (s.eachLane (fun m t => t.updLane m f)).lane l = f (s.lane l) := by
  have hown : ∀ (m : Lane) (t : State), True → (t.updLane m f).lane m = f (t.lane m) := fun m t _ => t.lane_updLane_self m f
  have hothers : ∀ (m n : Lane) (t : State), True → m ≠ n → (t.updLane m f).lane n = t.lane n := fun _ _ t _ h => t.lane_updLane_ne f h
  exact State.lane_eachLane_local (fun _ _ _ => trivial) hown hothers trivial l

theorem State.lane_clearPlans (s : State) (l : Lane) : s.clearPlans.lane l = { s.lane l with plan := LanePlan.none } :=
  s.lane_eachLane_updLane _ l

theorem State.clearPlans_frame (s : State) : { s.clearPlans with lanes := s.lanes } = s :=
  State.eachLane_keeps (fun t => ({ t with lanes := s.lanes } : State) = s) _ s rfl fun _ _ h => h

/-! ## Stages -/

/-- The stages of a lane's pitch step from `first` to stage 7, in order (R55). -/
def stagesFrom (x : StepCtx) (first : Nat) (l : Lane) (s : State) : State :=
  ([1, 2, 3, 4, 5, 6, 7].filter (fun n => decide (first ≤ n))).foldl (fun v n => runStage x n l v) s

theorem stagesFrom_of_lt (x : StepCtx) {first : Nat} (h : 7 < first) (l : Lane) (s : State) : stagesFrom x first l s = s := by
  have hnone : [1, 2, 3, 4, 5, 6, 7].filter (fun n => decide (first ≤ n)) = [] :=
    List.filter_eq_nil_iff.2 fun n hn => by
      simp only [List.mem_cons, List.not_mem_nil, or_false] at hn
      simp only [decide_eq_true_eq]
      omega
  rw [stagesFrom, hnone]
  rfl

theorem stagesFrom_of_le (x : StepCtx) {first : Nat} (h1 : 1 ≤ first) (h : first ≤ 7) (l : Lane) (s : State) :
    stagesFrom x first l s = stagesFrom x (first + 1) l (runStage x first l s) := by
  have hcons : ∀ n : Fin 8, 1 ≤ n.val → [1, 2, 3, 4, 5, 6, 7].filter (fun m => decide (n.val ≤ m)) =
      n.val :: [1, 2, 3, 4, 5, 6, 7].filter (fun m => decide (n.val + 1 ≤ m)) := by decide
  rw [stagesFrom, hcons ⟨first, by omega⟩ h1]
  rfl

theorem next_set_ne (v : Vector Nat 6) {l m : Lane} (h : l ≠ m) (n : Nat) : (v.set l n)[m] = v[m] := by
  have hne : l.val ≠ m.val := fun e => h (Fin.ext e)
  simp [hne]

/-- Enough advances run a lane's step to its end, and leave the next stage of every other lane. -/
theorem Steps.iterate_advance (x : StepCtx) (l : Lane) (n : Nat) (p : Steps) (h1 : 1 ≤ p.next[l]) (h : 8 ≤ p.next[l] + n) :
    ((Steps.advance x l)^[n] p).state = stagesFrom x p.next[l] l p.state ∧
      ∀ m : Lane, l ≠ m → ((Steps.advance x l)^[n] p).next[m] = p.next[m] := by
  induction n generalizing p with
  | zero => exact ⟨(stagesFrom_of_lt x (by omega) l p.state).symm, fun _ _ => rfl⟩
  | succ n ih =>
    rw [Function.iterate_succ_apply]
    by_cases h7 : p.next[l] ≤ 7
    · have hself : (p.advance x l).next[l] = p.next[l] + 1 := by rw [Steps.advance_of_le x l p h7]; simp
      have hothers : ∀ m : Lane, l ≠ m → (p.advance x l).next[m] = p.next[m] := fun m hm => by
        rw [Steps.advance_of_le x l p h7]
        exact next_set_ne _ hm _
      have hstate : (p.advance x l).state = runStage x p.next[l] l p.state := by rw [Steps.advance_of_le x l p h7]
      obtain ⟨ih, ihothers⟩ := ih (p.advance x l) (by omega) (by omega)
      exact ⟨by rw [ih, hself, hstate, ← stagesFrom_of_le x h1 h7], fun m hm => (ihothers m hm).trans (hothers m hm)⟩
    · rw [Steps.advance_of_lt x l p (by omega)]
      exact ih p h1 (by omega)

/-- Lanes run to the end of their steps one after another take the stages they had left. -/
theorem Steps.foldl_finish (x : StepCtx) {ls : List Lane} (hn : ls.Nodup) (p : Steps) (h : ∀ l ∈ ls, 1 ≤ p.next[l]) :
    (ls.foldl (fun p l => p.finish x l) p).state = ls.foldl (fun u l => stagesFrom x p.next[l] l u) p.state := by
  induction ls generalizing p with
  | nil => rfl
  | cons l ls ih =>
    obtain ⟨hl, hn⟩ := List.nodup_cons.1 hn
    have h1 := h l (by simp)
    obtain ⟨hstate, hothers⟩ := Steps.iterate_advance x l 7 p h1 (by omega)
    have hnext : ∀ m ∈ ls, (p.finish x l).next[m] = p.next[m] := fun m hm => hothers m (fun e => hl (e ▸ hm))
    rw [List.foldl_cons, List.foldl_cons, ih hn (p.finish x l) (fun m hm => (h m (by simp [hm])).trans_eq (hnext m hm).symm),
      show (p.finish x l).state = _ from hstate]
    exact List.foldl_ext _ _ _ fun u m hm => by rw [hnext m hm]

/-- A tick moves no lane back. -/
theorem Steps.tick_next_le (x : StepCtx) (p : Steps) (t : Tick) (m : Lane) : p.next[m] ≤ (p.tick x t).next[m] := by
  cases t with
  | conversion raw => exact le_rfl
  | stage l =>
    show p.next[m] ≤ (p.advance x l).next[m]
    by_cases h : p.next[l] ≤ 7
    · rw [Steps.advance_of_le x l p h]
      by_cases hm : l = m
      · subst hm; simp
      · exact (next_set_ne _ hm _).ge
    · rw [Steps.advance_of_lt x l p (by omega)]

/-- The pitch steps of a frame are the ticks, and then the stages they leave, in lane order (R54 to R56). -/
theorem runPitchSteps_eq (x : StepCtx) (ticks : List Tick) (s : State) (h : 1 ≤ x.firstStage) :
    let p := ticks.foldl (Steps.tick x) (Steps.start x s)
    runPitchSteps x ticks s = (List.finRange 6).foldl (fun u l => stagesFrom x p.next[l] l u) p.state := by
  refine Steps.foldl_finish x (List.nodup_finRange 6) _ fun l _ => ?_
  refine foldl_keeps (fun p : Steps => 1 ≤ p.next[l]) _ ticks (Steps.start x s) ?_ fun p t _ hp => hp.trans (p.tick_next_le x t l)
  simpa [Steps.start] using h

/-! ## Slots -/

/-- The Slot Map's entries with their slot numbers. -/
theorem zipIdx_toList {α : Type} {n : Nat} (v : Vector α n) : v.toList.zipIdx = (List.finRange n).map (fun i => (v[i], i.val)) := by
  refine List.ext_getElem (by simp) fun i _ _ => by simp

end Sys2Proof.Machine

namespace Sys2Proof.Proofs

open Sys2Proof.Machine Sys2Proof.Safety

/-- A cycle frame handed on, by its class: what stands before its pitch steps, the steps, and its slots (R132, R150). -/
theorem exec_cycleFrame_class {f : Frame} {rest : List Frame} {s : State} (gapOrder : List Lane) (ticks : List Tick)
    (h : HandsCycle s f rest) {cls : FrameClass} (hcls : classify s.lastIndex (frameIndex f) = cls) :
    exec (.cycleFrame gapOrder ticks) s =
      .next (completed (finishCycle (cls = .again) f (runPitchSteps (stepCtx f cls) ticks (beginCycle f cls gapOrder s))) rest) := by
  rw [exec_cycleFrame_handed gapOrder ticks h, processCycle]
  simp only [hcls]

theorem continuity_gap {s : State} {last : Index} (h : s.lastIndex = some last) (k : Index) (order : List Lane) :
    continuity .gap k order s = gapHandling last k order s := by
  unfold continuity
  rw [h]

theorem continuity_lost {s : State} {last : Index} (h : s.lastIndex = some last) (k : Index) (order : List Lane) :
    continuity .lost k order s = lostTrack last k s := by
  unfold continuity
  rw [h]

/-- An accepted frame, with its continuity handling as a state to be named (R132). -/
theorem exec_cycleFrame_accepted {f : Frame} {rest : List Frame} {s : State} (gapOrder : List Lane) (ticks : List Tick)
    (h : HandsCycle s f rest) {cls : FrameClass} (hcls : classify s.lastIndex (frameIndex f) = cls) (hne : cls ≠ .again) {u : State}
    (hu : continuity cls (frameIndex f) gapOrder (frameTaken cls s) = u) :
    exec (.cycleFrame gapOrder ticks) s =
      .next (completed (finishCycle false f (runPitchSteps (stepCtx f cls) ticks (frameAccepted (frameIndex f) u))) rest) := by
  rw [exec_cycleFrame_class gapOrder ticks h hcls, beginCycle_eq, if_neg hne, hu, decide_eq_false hne]

/-- Settles O14: the parts of the frame as the model puts them together, for each class of frame. -/
theorem cycleFrameSequence : Obligations.CycleFrameSequence := by
  refine ⟨fun s => ⟨s.clearPlans_frame, s.lane_clearPlans⟩, fun f rest gapOrder ticks s h => ?_, fun x s hx => ?_, fun isRepeat f s => ?_⟩
  · intro k s0 accepted done
    have htaken : ∀ cls, classify s.lastIndex k = cls → frameTaken cls s = s0 := fun cls hcls => by rw [← hcls, frameTaken]
    have haccepted : accepted = frameAccepted k := rfl
    have hdone : ∀ b u, done b u = completed (finishCycle b f u) rest := fun _ _ => rfl
    simp only [hdone, haccepted]
    have hlast0 : s0.lastIndex = s.lastIndex := rfl
    clear_value s0 accepted done
    refine ⟨fun hlast => ?_, fun last hlast => ?_⟩
    · have hcls : classify s.lastIndex k = .first := by rw [hlast]; rfl
      exact exec_cycleFrame_accepted gapOrder ticks h hcls (by decide) (htaken _ hcls)
    · obtain ⟨hagain, hnext, hgap, hlost⟩ := classesAndReachedTest.2.1 last k
      rw [← hlast] at hagain hnext hgap hlost
      rw [hlast] at hlast0
      refine ⟨fun hd => ?_, fun hd => ?_, fun hd => ?_, fun hd => ?_⟩
      · rw [exec_cycleFrame_class gapOrder ticks h (hagain hd), beginCycle_eq, if_pos rfl, htaken _ (hagain hd)]
        rfl
      · exact exec_cycleFrame_accepted gapOrder ticks h (hnext hd) (by decide) (htaken _ (hnext hd))
      · exact exec_cycleFrame_accepted gapOrder ticks h (hgap hd) (by decide)
          (by rw [htaken _ (hgap hd), continuity_gap hlast0])
      · exact exec_cycleFrame_accepted gapOrder ticks h (hlost hd) (by decide)
          (by rw [htaken _ (hlost hd), continuity_lost hlast0])
  · intro stage stages begun
    have hstage : stage = runStage x := rfl
    have hstages : stages = stagesFrom x := rfl
    rw [hstages, hstage]
    refine ⟨?_, fun ticks => runPitchSteps_eq x ticks s hx, fun p => ⟨fun l hl => Steps.advance_of_le x l p hl,
      fun l hl => Steps.advance_of_lt x l p hl, fun raw => ?_⟩⟩
    · rw [runPitchSteps_eq x [] s hx]
      refine List.foldl_ext _ _ _ fun u l _ => ?_
      exact congrArg (fun n => stagesFrom x n l u) (Vector.getElem_replicate ..)
    · show Steps.mk (p.state.convert raw (p.inProgress x)) p.next = _
      have hprogress : p.inProgress x = fun l => decide (x.firstStage < p.next[l] ∧ p.next[l] ≤ 7) :=
        funext fun l => (Bool.decide_and _ _).symm
      rw [hprogress]
  · unfold finishCycle
    rw [zipIdx_toList, List.foldl_map]

end Sys2Proof.Proofs
end

section
/-! PROOFS. The Frame Buffer and the frame check (R33, R144, R145). -/

namespace Sys2Proof.Proofs

open Sys2Proof.Machine Sys2Proof.Safety

/-! ## The frame check -/

/-- The node address of a service frame, as a number. -/
theorem addressed_iff (addr : BitVec 6) (f : Frame) :
    byteAt f 1 = addr.zeroExtend 8 ∨ byteAt f 1 = 63 ↔ natAt f 1 = addr.toNat ∨ natAt f 1 = 63 := by
  have haddr : (addr.zeroExtend 8).toNat = addr.toNat := by
    have := addr.isLt
    simp only [BitVec.truncate_eq_setWidth, BitVec.toNat_setWidth]
    omega
  rw [← BitVec.toNat_inj, ← BitVec.toNat_inj (y := (63 : Byte)), haddr]
  rfl

section

variable {addr : BitVec 6} {f : Frame}

theorem frameFate_of_badCrc (h : crcGood f = false) : frameFate addr f = .bad 1 := by
  rw [frameFate, h]
  rfl

theorem frameFate_of_cycle (h : crcGood f = true) (hkind : byteAt f 0 = 0xC1) :
    frameFate addr f = if 1 ≤ slotCount f ∧ slotCount f ≤ 48 ∧ f.length = 10 + 16 * slotCount f then .cycle else .bad 2 := by
  rw [frameFate, h, if_neg (by decide), if_pos hkind]

theorem frameFate_of_service (h : crcGood f = true) (hkind : byteAt f 0 = 0x5A) :
    frameFate addr f =
      if f.length = 58 then if natAt f 1 = addr.toNat ∨ natAt f 1 = 63 then .service else .pass else .bad 2 := by
  rw [frameFate, h, if_neg (by decide), if_neg (by rw [hkind]; decide), if_pos hkind]
  simp only [addressed_iff]

theorem frameFate_of_other (h : crcGood f = true) (hcycle : byteAt f 0 ≠ 0xC1) (hservice : byteAt f 0 ≠ 0x5A) :
    frameFate addr f = .pass := by
  rw [frameFate, h, if_neg (by decide), if_neg hcycle, if_neg hservice]

theorem frameFate_eq_service : frameFate addr f = .service ↔
    crcGood f = true ∧ byteAt f 0 = 0x5A ∧ f.length = 58 ∧ (natAt f 1 = addr.toNat ∨ natAt f 1 = 63) := by
  by_cases hc : crcGood f = true
  · by_cases hcycle : byteAt f 0 = 0xC1
    · rw [frameFate_of_cycle hc hcycle]
      have hne : byteAt f 0 ≠ 0x5A := by rw [hcycle]; decide
      refine ⟨fun h => ?_, fun h => absurd h.2.1 hne⟩
      split at h <;> cases h
    · by_cases hservice : byteAt f 0 = 0x5A
      · rw [frameFate_of_service hc hservice]
        split
        · next hl => split <;> simp [*]
        · next hl => simp [hl]
      · rw [frameFate_of_other hc hcycle hservice]
        exact ⟨fun h => (nomatch h), fun h => absurd h.2.1 hservice⟩
  · rw [frameFate_of_badCrc (Bool.eq_false_iff.2 hc)]
    simp [hc]

end

theorem switchRequest_ne_readCard (b : Byte) : switchRequest b ≠ .readCard := by
  unfold switchRequest
  split <;> decide

theorem laneRequest_ne_readCard (b : Byte) : laneRequest b ≠ .readCard := by
  unfold laneRequest
  split <;> decide

/-- The requests that a kind selects are none of them READ_CARD (R157, R167). -/
theorem requestOf_eq_readCard (f : Frame) : requestOf f = .readCard ↔ natAt f 3 = 0x21 := by
  unfold requestOf
  split <;> simp_all [switchRequest_ne_readCard, laneRequest_ne_readCard]

/-- A READ_CARD request that this node answers under its address, by its bytes (R145, R157, R160). -/
theorem isCardRequest_iff (addr : BitVec 6) (f : Frame) :
    isCardRequest addr f = true ↔ (crcGood f = true ∧ byteAt f 0 = 0x5A ∧ f.length = 58 ∧ natAt f 1 = addr.toNat) ∧ natAt f 1 ≠ 63 ∧
      natAt f 3 = 0x21 := by
  have hbroadcast : byteAt f 1 ≠ 63 ↔ natAt f 1 ≠ 63 := not_congr ⟨fun h => by rw [natAt, h]; rfl, fun h => BitVec.eq_of_toNat_eq h⟩
  simp only [isCardRequest, Bool.and_eq_true, decide_eq_true_eq, frameFate_eq_service, requestOf_eq_readCard, hbroadcast]
  tauto

/-! ## FRAME_PROCESSING -/

/-- What follows from the check of the oldest frame (R145). -/
def checked (s : State) (f : Frame) : FrameFate → State
  | .bad cause => { s with ring := s.ring.addCrcError, phase := .sending }.latchChip .frameCrc [byteAt f 0, cause]
  | .pass => { s with phase := .sending }
  | .cycle => s.handOnCycle f
  | .service => { s with phase := .service }

theorem exec_frameProcessing {f : Frame} {rest : List Frame} {s : State} (h : InOperation s) (hp : s.phase = .waiting)
    (hb : s.buffer = f :: rest) {fate : FrameFate} (hf : frameFate s.nodeAddr f = fate) :
    exec .frameProcessing s = .next (checked s f fate) := by
  show execFrameProcessing s = _
  rw [execFrameProcessing, if_pos ⟨(onRing_eq_true_iff s).2 h, hp⟩]
  split
  · next he => cases hb.symm.trans he
  · next g tail he =>
    obtain ⟨rfl, rfl⟩ := List.cons.inj (hb.symm.trans he)
    rw [hf]
    cases fate <;> rfl

theorem viewsAfterDeparture_eq (vs : List CardView) :
    viewsAfterDeparture vs = (vs.filter (fun v => decide (v.place ≠ 0))).map (fun v => { v with place := v.place - 1 }) := by
  rw [viewsAfterDeparture]
  simp only [Nat.pos_iff_ne_zero]

theorem cardView_eq (s : State) (i : Nat) :
    s.cardView i = ⟨i, s.lastIndex, s.stations, Vector.ofFn (fun l => (s.lane l).web), s.gate⟩ := by
  have hwebs : s.lanes.map LaneRec.web = Vector.ofFn (fun l : Lane => (s.lane l).web) := by
    ext i hi
    simp [State.lane]
  rw [State.cardView, hwebs]

/-- Settles O7: the arriving frame by its length and the room, the departing frame, and the frame check in its cases. -/
theorem frameBufferAndCheck : Obligations.FrameBufferAndCheck := by
  refine ⟨fun f s h => ?_, fun f rest s h hp hb => ?_, fun f rest s h hp hb => ?_⟩
  · have hring := (onRing_eq_true_iff s).2 h
    have hexec : exec (.frameArrival f) s = .next (s.arrive f) := congrArg Host.Outcome.next (if_pos hring)
    have hlength : frameLengthOk f = true ↔ 3 ≤ f.length ∧ f.length ≤ 778 := by simp [frameLengthOk]
    rw [hexec]
    refine ⟨fun ⟨h1, h2, h3⟩ => ?_, fun ⟨h1, h2, h3⟩ => ?_, fun h1 => ?_⟩
    · rw [State.arrive, hlength.2 ⟨h1, h2⟩, if_neg (by decide), if_pos h3]
    · rw [State.arrive, hlength.2 ⟨h1, h2⟩, if_neg (by decide), if_neg (by omega)]
      rfl
    · rw [State.arrive, if_pos (by rw [Bool.eq_false_iff.2 (fun h2 => absurd (hlength.1 h2) (by omega))]; rfl)]
      rfl
  · show execFrameDeparture s = _
    rw [execFrameDeparture, if_pos ⟨(onRing_eq_true_iff s).2 h, hp⟩]
    split
    · next he => cases hb.symm.trans he
    · next g tail he =>
      obtain ⟨rfl, rfl⟩ := List.cons.inj (hb.symm.trans he)
      rw [viewsAfterDeparture_eq]
  · intro bad n
    have hexec := fun fate => exec_frameProcessing (fate := fate) h hp hb
    refine ⟨fun hc => hexec _ (frameFate_of_badCrc hc), fun hc hk h1 => ?_, fun hc hk h1 => ?_, fun hc hk hl ha => ?_,
      fun hc hk hl ha => ?_, fun hc hk hl => ?_, fun hc hk h1 => hexec _ (frameFate_of_other hc hk h1)⟩
    · have hfate := hexec _ ((frameFate_of_cycle hc hk).trans (if_pos h1))
      refine ⟨fun hlast => ?_, fun hlast => ?_⟩
      · rw [hfate, checked, State.handOnCycle, if_pos ((classify_eq_again _ (frameIndex f)).2 hlast)]
      · intro forNode held
        refine ⟨s.heldCards.map s.cardView, ?_, fun i => ?_, fun v hv => ?_⟩
        · rw [hfate, checked, State.handOnCycle, if_neg (fun e => hlast ((classify_eq_again _ (frameIndex f)).1 e))]
          rfl
        · have hplaces : (∃ v ∈ s.heldCards.map s.cardView, v.place = i) ↔ i ∈ s.heldCards := by simp
          rw [hplaces, State.mem_heldCards]
          simp only [isCardRequest_iff, held, forNode]
          constructor
          · rintro ⟨h0, ⟨g, hg, hnode, hbroadcast, hcode⟩, hv⟩
            exact ⟨g, h0, hg, hnode, hbroadcast, hcode, hv⟩
          · rintro ⟨g, h0, hg, hnode, hbroadcast, hcode, hv⟩
            exact ⟨h0, ⟨g, hg, hnode, hbroadcast, hcode⟩, hv⟩
        · obtain ⟨i, -, rfl⟩ := List.mem_map.1 hv
          exact cardView_eq s i
    · exact hexec _ ((frameFate_of_cycle hc hk).trans (if_neg h1))
    · exact hexec _ ((frameFate_of_service hc hk).trans ((if_pos hl).trans (if_pos ha)))
    · exact hexec _ ((frameFate_of_service hc hk).trans ((if_pos hl).trans (if_neg ha)))
    · exact hexec _ ((frameFate_of_service hc hk).trans (if_neg hl))

end Sys2Proof.Proofs
end

section
/-! PROOFS. What an accepted report writes into its card, and which reasons it adds (R21, R78 to R80, R103, R104). -/

namespace Sys2Proof.Proofs

open Sys2Proof.Machine Sys2Proof.Safety

/-! ## Reasons added in order -/

/-- Reasons joined behind those a card has: each of `order` at most once, in that order, and only where it is new (R21). -/
def JoinsReasons (before after order : List Reason) : Prop :=
  ∃ new, after = before ++ new ∧ new.Sublist order ∧ ∀ x ∈ new, x ∉ before

theorem joinsReasons_addReasonIf (c : Card) (b : Bool) (r : Reason) : JoinsReasons c.reasons (c.addReasonIf b r).reasons [r] := by
  unfold Card.addReasonIf
  split
  · rw [Card.reasons_addReason]
    split
    · exact ⟨[], by simp, by simp, by simp⟩
    · next h => exact ⟨[r], rfl, .refl _, by simpa using h⟩
  · exact ⟨[], by simp, by simp, by simp⟩

/-- Reasons added one after another join in that order. -/
theorem JoinsReasons.trans {as bs cs first second : List Reason} (h : JoinsReasons as bs first) (h' : JoinsReasons bs cs second) :
    JoinsReasons as cs (first ++ second) := by
  obtain ⟨new, rfl, hnew, hout⟩ := h
  obtain ⟨new', rfl, hnew', hout'⟩ := h'
  refine ⟨new ++ new', by simp, hnew.append hnew', fun x hx => ?_⟩
  rcases List.mem_append.1 hx with hx | hx
  · exact hout x hx
  · exact fun h => hout' x hx (List.mem_append_left _ h)

theorem mem_reasons_addReasonIf (c : Card) (b : Bool) (r x : Reason) :
    x ∈ (c.addReasonIf b r).reasons ↔ x ∈ c.reasons ∨ x = r ∧ b = true := by
  unfold Card.addReasonIf
  cases b with
  | true => simp [mem_reasons_addReason]
  | false => simp

/-- Two reasons added under their conditions. -/
theorem mem_reasons_addReasonIf_two (c : Card) (a b : Bool) (r q x : Reason) :
    x ∈ ((c.addReasonIf a r).addReasonIf b q).reasons ↔ x ∈ c.reasons ∨ x = r ∧ a = true ∨ x = q ∧ b = true := by
  rw [mem_reasons_addReasonIf, mem_reasons_addReasonIf, or_assoc]

theorem joinsReasons_addReasonIf_two (c : Card) (a b : Bool) (r q : Reason) :
    JoinsReasons c.reasons ((c.addReasonIf a r).addReasonIf b q).reasons [r, q] :=
  (joinsReasons_addReasonIf c a r).trans (joinsReasons_addReasonIf (c.addReasonIf a r) b q)

/-! ## Counts -/

/-- A packed count of a LOAD_RPT: cavity 0 in the high half of the first byte (R154). -/
def packedCount (payload : List Byte) (i j : Nat) : Nat :=
  if j % 2 = 0 then natAt payload (i + j / 2) / 16 else natAt payload (i + j / 2) % 16

theorem counts8_eq (payload : List Byte) (i : Nat) : counts8 payload i = (List.range 8).map (packedCount payload i) := by
  rfl

theorem loadedCounts_eq {r : Recipe} (payload : List Byte) (h : r.cavities ≤ 8) :
    loadedCounts r payload = (List.range r.cavities).map (packedCount payload 3) := by
  rw [loadedCounts, counts8_eq, ← List.map_take, List.take_range, Nat.min_eq_left h]

/-- A test of the counts against the expected ones, cavity by cavity. -/
theorem any_zip_expected (f : Nat → Nat) (expected : List Nat) (p : Nat × Nat → Bool) :
    (((List.range expected.length).map f).zip expected).any p = true ↔ ∃ j < expected.length, p (f j, expected.getD j 0) = true := by
  rw [List.any_eq_true]
  constructor
  · rintro ⟨x, hx, hp⟩
    obtain ⟨j, hj, rfl⟩ := List.mem_iff_getElem.1 hx
    have hj' : j < expected.length := by simpa using hj
    exact ⟨j, hj', by simpa [List.getD_eq_getElem?_getD, hj'] using hp⟩
  · rintro ⟨j, hj, hp⟩
    refine ⟨(f j, expected.getD j 0), List.mem_iff_getElem.2 ⟨j, by simpa using hj, ?_⟩, hp⟩
    simp [List.getD_eq_getElem?_getD, hj]

theorem counts_of_inRange {r : Recipe} (h : r.inRange = true) : r.cavities ≤ 8 ∧ r.expected.length = r.cavities := by
  simp only [Recipe.inRange, Bool.and_eq_true, decide_eq_true_eq] at h
  tauto

/-- The counts of the card's cavities, compared one by one with the expected ones (R78). -/
theorem any_loadedCounts {r : Recipe} (payload : List Byte) (h : r.inRange = true) (p : Nat × Nat → Bool) :
    ((loadedCounts r payload).zip r.expected).any p = true ↔
      ∃ j < r.cavities, p (packedCount payload 3 j, r.expected.getD j 0) = true := by
  obtain ⟨hcavities, hlength⟩ := counts_of_inRange h
  rw [loadedCounts_eq payload hcavities, ← hlength]
  exact any_zip_expected _ _ _

/-- The weight check: no check for a window of 0/0 (R58, R79). -/
theorem weightOutside_iff (r : Recipe) (payload : List Byte) :
    weightOutside r (inspectWeight payload) = true ↔ ¬ (r.wMin = 0 ∧ r.wMax = 0) ∧
      (nat16At payload 4 = 65535 ∨ nat16At payload 4 < r.wMin ∨ r.wMax < nat16At payload 4) := by
  unfold weightOutside inspectWeight
  by_cases hw : r.wMin = 0 ∧ r.wMax = 0
  · simp [hw]
  · by_cases hn : nat16At payload 4 = 65535
    · simp [hw, hn]
    · simp [hw, hn]

/-! ## The reports -/

/-- The card with the counts of its LOAD_RPT written, and the two checks made of them (R78). -/
theorem acceptLoad_eq (r : Recipe) (payload : List Byte) (c : Card) :
    c.acceptLoad r payload = (({ c with loadResult := some (loadedCounts r payload) } : Card).addReasonIf
      (((loadedCounts r payload).zip r.expected).any (fun p => p.1 < p.2)) .loadShort).addReasonIf
      (((loadedCounts r payload).zip r.expected).any (fun p => p.2 < p.1)) .loadOver := rfl

theorem acceptInspect_eq (r : Recipe) (payload : List Byte) (c : Card) :
    c.acceptInspect r payload = (({ c with inspection := some ⟨inspectFails r payload, inspectWeight payload⟩ } : Card).addReasonIf
      ((inspectFails r payload).any (fun b => b)) .inspectFail).addReasonIf (weightOutside r (inspectWeight payload)) .weightOut := rfl

theorem acceptCard_eq (payload : List Byte) (c : Card) :
    c.acceptCard payload = ({ c with placed := some (yesField (byteAt payload 3)) } : Card).addReasonIf
      (!yesField (byteAt payload 3)) .noCard := rfl

/-- A seal report adds SEAL_UNCONFIRMED or, where contact and pressure are confirmed, SEAL_UNDERDOSE where the recheck fails (R103, R104). -/
theorem acceptSeal_eq (r : Recipe) (payload : List Byte) {c : Card} {sr : SealRecord} (h : c.sealRec = some sr) :
    c.acceptSeal r payload =
      (({ c with sealRec := some { sr with
            achieved := some (nat16At payload 5), contact := some (yesField (byteAt payload 3)) } } : Card).addReasonIf
        (!(yesField (byteAt payload 3) && yesField (byteAt payload 4))) .sealUnconfirmed).addReasonIf
        (yesField (byteAt payload 3) && yesField (byteAt payload 4) && recheckFails r sr (nat16At payload 5)) .sealUnderdose := by
  unfold Card.acceptSeal
  rw [h]
  cases hb : yesField (byteAt payload 3) && yesField (byteAt payload 4) with
  | true => simp only [hb]; rfl
  | false => simp only [hb]; rfl

theorem yesField_iff (b : Byte) : yesField b = true ↔ b = 0x01 := decide_eq_true_iff

theorem confirmed_iff (contact pressure : Byte) :
    (yesField contact && yesField pressure) = true ↔ contact = 0x01 ∧ pressure = 0x01 := by
  rw [Bool.and_eq_true, yesField_iff, yesField_iff]

/-- The recheck takes the dose of the achieved dwell at the stored excess (R104). -/
theorem recheckFails_iff (r : Recipe) (sr : SealRecord) (achieved : Nat) :
    recheckFails r sr achieved = true ↔ achieved * sr.excess.toNat / 10 * 256 < r.heatDose * (256 - r.tolU) := decide_eq_true_iff

/-- Settles O20: each report writes its result, and then adds its reasons under their conditions. -/
theorem reportChecks : Obligations.ReportChecks := by
  refine ⟨fun r payload c hr => ?_, fun r payload c sr hs => ?_⟩
  · have hload : c.accept .load r payload = _ := acceptLoad_eq r payload c
    have hinspect : c.accept .inspect r payload = _ := acceptInspect_eq r payload c
    have hcard : c.accept .card r payload = _ := acceptCard_eq payload c
    rw [hload, hinspect, hcard]
    refine ⟨⟨?_, fun x => ?_, ?_, ?_⟩, ⟨?_, fun x => ?_, ?_, ?_⟩, ?_, fun x => ?_, ?_, ?_⟩
    · rw [Card.addReasonIf_loadResult, Card.addReasonIf_loadResult, loadedCounts_eq payload (counts_of_inRange hr).1]
      rfl
    · rw [mem_reasons_addReasonIf_two, any_loadedCounts payload hr, any_loadedCounts payload hr]
      simp only [decide_eq_true_eq]
      rfl
    · exact joinsReasons_addReasonIf_two _ _ _ _ _
    · rw [Card.addReasonIf_eq, Card.addReasonIf_eq]
    · rw [Card.addReasonIf_inspection, Card.addReasonIf_inspection]
      rfl
    · rw [mem_reasons_addReasonIf_two, weightOutside_iff]
      simp only [inspectFails, List.any_map, List.any_eq_true, List.mem_range]
      rfl
    · exact joinsReasons_addReasonIf_two _ _ _ _ _
    · rw [Card.addReasonIf_eq, Card.addReasonIf_eq]
    · rw [Card.addReasonIf_placed]
      rfl
    · rw [mem_reasons_addReasonIf, Bool.not_eq_true', ← Bool.not_eq_true, yesField_iff]
    · exact joinsReasons_addReasonIf _ _ _
    · rw [Card.addReasonIf_eq]
  · have hseal : c.accept .sealing r payload = _ := acceptSeal_eq r payload hs
    rw [hseal]
    refine ⟨?_, fun x => ?_, ?_, ?_⟩
    · rw [Card.addReasonIf_sealRec, Card.addReasonIf_sealRec]
      rfl
    · rw [mem_reasons_addReasonIf_two, Bool.not_eq_true', ← Bool.not_eq_true]
      rw [Bool.and_eq_true _ (recheckFails _ _ _), confirmed_iff, recheckFails_iff, and_assoc]
    · exact joinsReasons_addReasonIf_two _ _ _ _ _
    · rw [Card.addReasonIf_eq, Card.addReasonIf_eq]

end Sys2Proof.Proofs
end

section
/-! PROOFS. Fields and flags read back from the bytes that carry them (R153 to R155, R158, R159). -/

namespace Sys2Proof.Machine

/-! ## Bytes -/

theorem byteAt_append_left {xs : List Byte} (ys : List Byte) {i : Nat} (h : i < xs.length) : byteAt (xs ++ ys) i = byteAt xs i := by
  unfold byteAt
  simp only [List.getD_eq_getElem?_getD, List.getElem?_append_left h]

theorem byteAt_append_right (xs ys : List Byte) (i : Nat) : byteAt (xs ++ ys) (xs.length + i) = byteAt ys i := by
  unfold byteAt
  simp only [List.getD_eq_getElem?_getD, List.getElem?_append_right (Nat.le_add_right _ _), Nat.add_sub_cancel_left]

theorem toNat_byteOf {n : Nat} (h : n < 256) : (byteOf n).toNat = n := by
  rw [byteOf, BitVec.toNat_ofNat]
  exact Nat.mod_eq_of_lt h

/-! ## Words -/

theorem word24_bytes24 (w : BitVec 24) : word24 (bytes24 w) 0 = w := by
  show w.extractLsb' 16 8 ++ w.extractLsb' 8 8 ++ w.extractLsb' 0 8 = w
  rw [BitVec.extractLsb'_append_extractLsb'_eq_extractLsb' (by rfl), BitVec.extractLsb'_append_extractLsb'_eq_extractLsb' (by rfl)]
  exact BitVec.extractLsb'_eq_self

theorem word32_bytes32 (w : BitVec 32) : word32 (bytes32 w) 0 = w := by
  show w.extractLsb' 24 8 ++ w.extractLsb' 16 8 ++ w.extractLsb' 8 8 ++ w.extractLsb' 0 8 = w
  rw [BitVec.extractLsb'_append_extractLsb'_eq_extractLsb' (by rfl), BitVec.extractLsb'_append_extractLsb'_eq_extractLsb' (by rfl),
    BitVec.extractLsb'_append_extractLsb'_eq_extractLsb' (by rfl)]
  exact BitVec.extractLsb'_eq_self

theorem nat16At_nat16 (n : Nat) (h : n < 65536) : nat16At (nat16 n) 0 = n := by
  rw [nat16At, nat16, word16_bytes16, BitVec.toNat_ofNat]
  exact Nat.mod_eq_of_lt h

/-! ## Flags -/

theorem bitsFromLow_cons (b : Bool) (bs : List Bool) : bitsFromLow (b :: bs) = Nat.bit b (bitsFromLow bs) := by
  have hshift : ∀ (cs : List Bool) (k : Nat), ((cs.zipIdx (k + 1)).map (fun p => if p.1 then 2 ^ p.2 else 0)).sum =
      2 * ((cs.zipIdx k).map (fun p => if p.1 then 2 ^ p.2 else 0)).sum := by
    intro cs
    induction cs with
    | nil => simp
    | cons c cs ih =>
      intro k
      rw [List.zipIdx_cons, List.zipIdx_cons, List.map_cons, List.map_cons, List.sum_cons, List.sum_cons, ih, Nat.mul_add]
      cases c <;> simp [Nat.pow_succ, Nat.mul_comm]
  rw [bitsFromLow, List.zipIdx_cons, List.map_cons, List.sum_cons, hshift, Nat.bit_val]
  cases b <;> simp [bitsFromLow, Nat.add_comm]

/-- Bit `j` of the number is the `j`-th flag (R159). -/
theorem testBit_bitsFromLow (bs : List Bool) (j : Nat) : (bitsFromLow bs).testBit j = bs.getD j false := by
  induction bs generalizing j with
  | nil => simp [bitsFromLow]
  | cons b bs ih =>
    rw [bitsFromLow_cons]
    cases j with
    | zero => simp
    | succ j => rw [Nat.testBit_bit_succ, ih]; rfl

theorem getLsbD_byteOf (n j : Nat) : (byteOf n).getLsbD j = (decide (j < 8) && n.testBit j) := by
  rw [byteOf, BitVec.getLsbD_ofNat]

/-- A byte's flags, the first at the top (R155). -/
theorem bitsFromTop_eq (bs : List Bool) : bitsFromTop bs = byteOf (bitsFromLow ((List.range 8).map (fun j => bs.getD (7 - j) false))) := by
  unfold bitsFromTop bitsFromLow
  congr 1
  exact (List.sum_reverse _).symm.trans (congrArg List.sum rfl)

theorem getLsbD_bitsFromTop (bs : List Bool) {j : Nat} (h : j < 8) : (bitsFromTop bs).getLsbD (7 - j) = bs.getD j false := by
  rw [bitsFromTop_eq, getLsbD_byteOf, testBit_bitsFromLow, decide_eq_true (show 7 - j < 8 by omega), Bool.true_and]
  rw [List.getD_eq_getElem?_getD, List.getElem?_map, List.getElem?_range (by omega)]
  simp only [Option.map_some, Option.getD_some, show 7 - (7 - j) = j by omega]

end Sys2Proof.Machine
end

section
/-! PROOFS. READ_CARD and READ_SLOT_MAP: the card readout byte by byte, the card found, and the use codes (R33 to R35, R148, R159). -/

namespace Sys2Proof.Proofs

open Sys2Proof.Machine Sys2Proof.Safety

/-! ## The parts of the card readout -/

/-- The bytes before the load result (R159). -/
def readoutHead (list : Byte) (k : Index) (c : Card) : List Byte :=
  [list, byteOf c.record] ++ bytes24 c.serial ++ [byteOf c.lane] ++ bytes16 c.formed ++ nat16 (c.position k)
    ++ [c.bank.code, byteOf c.entry] ++ bytes32 c.sku ++ [byteOf c.commanded.bits, byteOf c.presence]

/-- The bytes behind the seal record (R159). -/
def readoutTail (c : Card) : List Byte :=
  nat16 (reasonBits c.reasons) ++ [byteOf (reasonCode c.firstReason)] ++ bytes16 (c.gateIndex.getD 0)

theorem length_loadBytes (r : Option (List Nat)) : (loadBytes r).length = 5 := rfl

theorem length_inspectionBytes (r : Option InspectResult) : (inspectionBytes r).length = 3 := by cases r <;> rfl

theorem length_sealBytes (r : Option SealRecord) : (sealBytes r).length = 13 := by cases r <;> rfl

theorem cardBytes_eq (list : Byte) (k : Index) (c : Card) :
    cardBytes list k c = readoutHead list k c ++ (loadBytes c.loadResult ++ (inspectionBytes c.inspection ++
      ([boolByte (c.placed.getD false)] ++ (sealBytes c.sealRec ++ readoutTail c)))) := by
  simp only [cardBytes, readoutHead, readoutTail, List.append_assoc]

/-- Which part a byte of the readout belongs to (R159). -/
structure ReadoutParts (b : List Byte) (list : Byte) (k : Index) (c : Card) : Prop where
  length : b.length = 45
  head : ∀ i < 18, byteAt b i = byteAt (readoutHead list k c) i
  load : ∀ i < 5, byteAt b (18 + i) = byteAt (loadBytes c.loadResult) i
  inspection : ∀ i < 3, byteAt b (23 + i) = byteAt (inspectionBytes c.inspection) i
  placed : byteAt b 26 = boolByte (c.placed.getD false)
  sealing : ∀ i < 13, byteAt b (27 + i) = byteAt (sealBytes c.sealRec) i
  tail : ∀ i, byteAt b (40 + i) = byteAt (readoutTail c) i

theorem readoutParts (list : Byte) (k : Index) (c : Card) : ReadoutParts (cardBytes list k c) list k c := by
  have hhead : (readoutHead list k c).length = 18 := rfl
  have htail : (readoutTail c).length = 5 := rfl
  have hload := length_loadBytes c.loadResult
  have hinspection := length_inspectionBytes c.inspection
  have hplaced : [boolByte (c.placed.getD false)].length = 1 := rfl
  have hseal := length_sealBytes c.sealRec
  rw [cardBytes_eq]
  -- a byte from the end of a part on is a byte of what follows it
  have past : ∀ {xs ys : List Byte} {n m : Nat}, xs.length = n → ∀ i, m = n + i → byteAt (xs ++ ys) m = byteAt ys i :=
    fun h i hm => by subst h hm; exact byteAt_append_right _ _ i
  refine ⟨?_, fun i hi => ?_, fun i hi => ?_, fun i hi => ?_, ?_, fun i hi => ?_, fun i => ?_⟩
  · simp [hhead, htail, hload, hinspection, hseal]
  · exact byteAt_append_left _ (by omega)
  · rw [past hhead i rfl]
    exact byteAt_append_left _ (by omega)
  · rw [past hhead (5 + i) (by omega), past hload i rfl]
    exact byteAt_append_left _ (by omega)
  · rw [past hhead 8 rfl, past hload 3 rfl, past hinspection 0 rfl]
    rfl
  · rw [past hhead (9 + i) (by omega), past hload (4 + i) (by omega), past hinspection (1 + i) (by omega), past hplaced i (by omega)]
    exact byteAt_append_left _ (by omega)
  · rw [past hhead (22 + i) (by omega), past hload (17 + i) (by omega), past hinspection (14 + i) (by omega), past hplaced (13 + i) (by omega),
      past hseal i rfl]

/-! ## Words and flags in the readout -/

theorem word16_congr {b d : List Byte} {i j : Nat} (h : ∀ n < 2, byteAt b (i + n) = byteAt d (j + n)) : word16 b i = word16 d j := by
  have h0 := h 0 (by omega)
  have h1 := h 1 (by omega)
  simp only [Nat.add_zero] at h0
  rw [word16, word16, h0, h1]

theorem word24_congr {b d : List Byte} {i j : Nat} (h : ∀ n < 3, byteAt b (i + n) = byteAt d (j + n)) : word24 b i = word24 d j := by
  have h0 := h 0 (by omega)
  have h1 := h 1 (by omega)
  have h2 := h 2 (by omega)
  simp only [Nat.add_zero] at h0
  rw [word24, word24, h0, h1, h2]

theorem word32_congr {b d : List Byte} {i j : Nat} (h : ∀ n < 4, byteAt b (i + n) = byteAt d (j + n)) : word32 b i = word32 d j := by
  have h0 := h 0 (by omega)
  have h1 := h 1 (by omega)
  have h2 := h 2 (by omega)
  have h3 := h 3 (by omega)
  simp only [Nat.add_zero] at h0
  rw [word32, word32, h0, h1, h2, h3]

/-- The flags of a byte, from bit 0 (R159). -/
theorem flags_byteOf (bs : List Bool) :
    (List.range 8).map (byteOf (bitsFromLow bs)).getLsbD = (List.range 8).map (fun j => bs.getD j false) :=
  List.map_congr_left fun j hj => by
    rw [getLsbD_byteOf, testBit_bitsFromLow, decide_eq_true (List.mem_range.1 hj), Bool.true_and]

/-- The thirteen reasons in code order (R21, R130). -/
def reasonsByCode : List Reason :=
  [.loadShort, .loadOver, .inspectFail, .weightOut, .noCard, .stationSilent, .sealNoHeat, .sealUnderdose, .sealOverdose, .sealUnconfirmed,
    .forced, .lanePurge, .indexGap]

theorem mem_reasonsByCode (r : Reason) : r ∈ reasonsByCode := by cases r <;> decide

/-- The reason set as flags in code order (R159). -/
theorem reasonBits_eq {rs : List Reason} (h : rs.Nodup) : reasonBits rs = bitsFromLow (reasonsByCode.map (fun r => decide (r ∈ rs))) := by
  have hset : rs.toFinset = reasonsByCode.toFinset.filter (· ∈ rs) := by
    ext r
    simp [mem_reasonsByCode r]
  calc reasonBits rs = ∑ r ∈ rs.toFinset, 2 ^ (r.code - 1) := (List.sum_toFinset _ h).symm
    _ = ∑ r ∈ reasonsByCode.toFinset, if r ∈ rs then 2 ^ (r.code - 1) else 0 := by rw [hset, Finset.sum_filter]
    _ = (reasonsByCode.map (fun r => if r ∈ rs then 2 ^ (r.code - 1) else 0)).sum := List.sum_toFinset _ (by decide)
    _ = bitsFromLow (reasonsByCode.map (fun r => decide (r ∈ rs))) := by
      simp only [bitsFromLow, reasonsByCode, List.map_cons, List.map_nil, List.zipIdx_cons, List.zipIdx_nil, decide_eq_true_eq]
      rfl

theorem getLsbD_reasonBits {rs : List Reason} (h : rs.Nodup) (n : Nat) :
    (BitVec.ofNat 16 (reasonBits rs)).getLsbD n = (reasonsByCode.map (fun r => decide (r ∈ rs))).getD n false := by
  rw [BitVec.getLsbD_ofNat, reasonBits_eq h, testBit_bitsFromLow]
  by_cases hn : n < 13
  · rw [decide_eq_true (show n < 16 by omega), Bool.true_and]
  · rw [List.getD_eq_default _ _ (by simpa [reasonsByCode] using hn), Bool.and_false]

theorem getLsbD_reasonBits_idxOf {rs : List Reason} (h : rs.Nodup) (r : Reason) :
    (BitVec.ofNat 16 (reasonBits rs)).getLsbD (reasonsByCode.idxOf r) = decide (r ∈ rs) := by
  rw [getLsbD_reasonBits h]
  cases r <;> rfl

/-! ## The fields of the readout -/

section

variable {b : List Byte} {list : Byte} {k : Index} {c : Card}

/-- Bytes 0 to 15: the list, the record and what the card was formed with (R159). -/
theorem ReadoutParts.identity (h : ReadoutParts b list k c) :
    byteAt b 0 = list ∧ natAt b 1 = c.record.val ∧ word24 b 2 = c.serial ∧ natAt b 5 = c.lane.val ∧ word16 b 6 = c.formed ∧
      nat16At b 8 = indexDistance c.formed k ∧ byteAt b 10 = (if c.bank = .A then 0 else 1) ∧ natAt b 11 = c.entry.val ∧
      word32 b 12 = c.sku := by
  have hserial : word24 b 2 = word24 (bytes24 c.serial) 0 := word24_congr fun n hn => by
    rw [h.head _ (by omega)]
    interval_cases n <;> rfl
  have hformed : word16 b 6 = word16 (bytes16 c.formed) 0 := word16_congr fun n hn => by
    rw [h.head _ (by omega)]
    interval_cases n <;> rfl
  have hposition : word16 b 8 = word16 (nat16 (c.position k)) 0 := word16_congr fun n hn => by
    rw [h.head _ (by omega)]
    interval_cases n <;> rfl
  have hsku : word32 b 12 = word32 (bytes32 c.sku) 0 := word32_congr fun n hn => by
    rw [h.head _ (by omega)]
    interval_cases n <;> rfl
  have hbank : c.bank.code = if c.bank = .A then 0 else 1 := by cases c.bank <;> rfl
  refine ⟨h.head 0 (by omega), ?_, hserial.trans (word24_bytes24 _), ?_, hformed.trans (word16_bytes16 _), ?_,
    (h.head 10 (by omega)).trans hbank, ?_, hsku.trans (word32_bytes32 _)⟩
  · rw [natAt, h.head 1 (by omega)]
    exact toNat_byteOf c.record.isLt
  · rw [natAt, h.head 5 (by omega)]
    exact toNat_byteOf (by omega)
  · rw [nat16At, hposition, ← position_eq_indexDistance]
    exact nat16At_nat16 _ (BitVec.isLt _)
  · rw [natAt, h.head 11 (by omega)]
    exact toNat_byteOf (by omega)

/-- Bytes 16 and 17: the commanded set and the parts present (R159). -/
theorem ReadoutParts.flags (h : ReadoutParts b list k c) :
    (List.range 8).map (byteAt b 16).getLsbD =
        [c.commanded.load, c.commanded.inspect, c.commanded.card, c.commanded.sealing, false, false, false, false] ∧
      (List.range 8).map (byteAt b 17).getLsbD =
        [c.loadResult.isSome, c.inspection.isSome, c.placed.isSome, c.sealRec.isSome, (c.sealRec.bind SealRecord.achieved).isSome,
          (c.sealRec.bind SealRecord.contact).isSome, c.gateIndex.isSome, false] := by
  rw [h.head 16 (by omega), h.head 17 (by omega)]
  exact ⟨flags_byteOf _, flags_byteOf _⟩

/-- Bytes 18 to 22: the load result (R35, R159). -/
theorem ReadoutParts.loaded (h : ReadoutParts b list k c) :
    (c.loadResult = none → ∀ n, 18 ≤ n → n ≤ 22 → byteAt b n = 0) ∧
      ∀ counts, c.loadResult = some counts → byteAt b 18 = BitVec.ofNat 8 counts.length ∧
        ∀ j < 4, byteAt b (19 + j) = BitVec.ofNat 8 (16 * counts.getD (2 * j) 0 + counts.getD (2 * j + 1) 0) := by
  refine ⟨fun hnone n h18 h22 => ?_, fun counts hcounts => ⟨?_, fun j hj => ?_⟩⟩
  · obtain ⟨i, rfl⟩ := Nat.exists_eq_add_of_le h18
    rw [h.load i (by omega), hnone]
    have hi : i < 5 := by omega
    interval_cases i <;> rfl
  · rw [h.load 0 (by omega), hcounts]
    rfl
  · rw [show 19 + j = 18 + (1 + j) by omega, h.load _ (by omega), hcounts]
    interval_cases j <;> rfl

/-- Bytes 23 to 26: the inspection result and the card placed (R159). -/
theorem ReadoutParts.inspected (h : ReadoutParts b list k c) :
    (c.inspection = none → ∀ n, 23 ≤ n → n ≤ 25 → byteAt b n = 0) ∧
      (∀ r, c.inspection = some r → (∀ j < 8, (byteAt b 23).getLsbD (7 - j) = r.fails.getD j false) ∧
        word16 b 24 = BitVec.ofNat 16 (r.weight.getD 65535)) ∧
      byteAt b 26 = (if c.placed = some true then 0x01 else 0x00) := by
  refine ⟨fun hnone n h23 h25 => ?_, fun r hr => ⟨fun j hj => ?_, ?_⟩, ?_⟩
  · obtain ⟨i, rfl⟩ := Nat.exists_eq_add_of_le h23
    rw [h.inspection i (by omega), hnone]
    have hi : i < 3 := by omega
    interval_cases i <;> rfl
  · rw [h.inspection 0 (by omega), hr]
    exact getLsbD_bitsFromTop r.fails hj
  · have hweight : word16 b 24 = word16 (nat16 (r.weight.getD 65535)) 0 := word16_congr fun n hn => by
      rw [show 24 + n = 23 + (1 + n) by omega, h.inspection _ (by omega), hr]
      interval_cases n <;> rfl
    exact hweight.trans (word16_bytes16 _)
  · rw [h.placed]
    rcases c.placed with _ | _ | _ <;> rfl

/-- A 16-bit field of the seal record, at byte `i` of it (R159). -/
theorem ReadoutParts.sealWord (h : ReadoutParts b list k c) {i : Nat} {w : BitVec 16} (hi : i + 1 < 13)
    (hw : ∀ n < 2, byteAt (sealBytes c.sealRec) (i + n) = byteAt (bytes16 w) (0 + n)) : word16 b (27 + i) = w :=
  (word16_congr fun n hn => by rw [Nat.add_assoc, h.sealing _ (by omega), hw n hn]).trans (word16_bytes16 w)

/-- Bytes 27 to 39: the seal record and the segments of its dwell (R159). -/
theorem ReadoutParts.sealed (h : ReadoutParts b list k c) :
    (c.sealRec = none → ∀ n, 27 ≤ n → n ≤ 39 → byteAt b n = 0) ∧
      ∀ r, c.sealRec = some r →
        word16 b 27 = BitVec.ofNat 16 r.z ∧ word16 b 29 = BitVec.ofInt 16 r.excess ∧ word16 b 31 = BitVec.ofNat 16 r.dwell ∧
        natAt b 33 = [SealOutcome.ok, .clampedLow, .clampedHigh, .noHeat, .noWindow, .underdose, .overdose].idxOf r.outcome + 1 ∧
        word16 b 34 = BitVec.ofNat 16 ((c.sealRec.bind SealRecord.achieved).getD 0) ∧
        byteAt b 36 = (if c.sealRec.bind SealRecord.contact = some true then 0x01 else 0x00) ∧
        word16 b 37 = BitVec.ofNat 16 (r.dwell / 8) ∧
        ∀ i < 8, (byteAt b 39).getLsbD (7 - i) = decide (r.dwell * (i + 1) / 8 - r.dwell * i / 8 = r.dwell / 8 + 1) := by
  refine ⟨fun hnone n h27 h39 => ?_, fun r hr => ?_⟩
  · obtain ⟨i, rfl⟩ := Nat.exists_eq_add_of_le h27
    rw [h.sealing i (by omega), hnone]
    have hi : i < 13 := by omega
    interval_cases i <;> rfl
  · refine ⟨h.sealWord (i := 0) (by omega) ?_, h.sealWord (i := 2) (by omega) ?_, h.sealWord (i := 4) (by omega) ?_, ?_,
      h.sealWord (i := 7) (by omega) ?_, ?_, h.sealWord (i := 10) (by omega) ?_, fun i hi => ?_⟩
    · rw [hr]; intro n hn; interval_cases n <;> rfl
    · rw [hr]; intro n hn; interval_cases n <;> rfl
    · rw [hr]; intro n hn; interval_cases n <;> rfl
    · rw [natAt, h.sealing 6 (by omega), hr]
      show r.outcome.code.toNat = _
      cases r.outcome <;> rfl
    · rw [hr]; intro n hn; interval_cases n <;> rfl
    · rw [h.sealing 9 (by omega), hr]
      show boolByte (r.contact.getD false) = if r.contact = some true then 0x01 else 0x00
      rcases r.contact with _ | _ | _ <;> rfl
    · rw [hr]; intro n hn; interval_cases n <;> rfl
    · rw [h.sealing 12 (by omega), hr]
      refine (getLsbD_bitsFromTop _ hi).trans ?_
      rw [List.getD_eq_getElem?_getD, List.getElem?_map, List.getElem?_range hi]
      rfl

/-- Bytes 40 to 44: the reasons, the first of them and the gate index (R159). -/
theorem ReadoutParts.judged (h : ReadoutParts b list k c) :
    (c.reasons.Nodup → (∀ r, (word16 b 40).getLsbD (reasonsByCode.idxOf r) = decide (r ∈ c.reasons)) ∧
        ∀ n, 13 ≤ n → (word16 b 40).getLsbD n = false) ∧
      natAt b 42 = ((c.reasons.head?.map (fun r => reasonsByCode.idxOf r + 1)).getD 0) ∧ word16 b 43 = c.gateIndex.getD 0 := by
  have hreasons : word16 b 40 = word16 (nat16 (reasonBits c.reasons)) 0 := word16_congr fun n hn => by
    rw [h.tail]
    interval_cases n <;> rfl
  have hgate : word16 b 43 = word16 (bytes16 (c.gateIndex.getD 0)) 0 := word16_congr fun n hn => by
    rw [show 43 + n = 40 + (3 + n) by omega, h.tail]
    interval_cases n <;> rfl
  rw [hreasons, nat16, word16_bytes16]
  refine ⟨fun hnodup => ⟨getLsbD_reasonBits_idxOf hnodup, fun n hn => ?_⟩, ?_, hgate.trans (word16_bytes16 _)⟩
  · rw [getLsbD_reasonBits hnodup]
    exact List.getD_eq_default _ _ (by simpa [reasonsByCode] using hn)
  · rw [natAt, h.tail 2]
    show (byteOf (reasonCode c.reasons.head?)).toNat = _
    cases c.reasons.head? with
    | none => rfl
    | some r => cases r <;> rfl

end

end Sys2Proof.Proofs
end

section
/-! PROOFS. READ_CARD and READ_SLOT_MAP: the card found and the use codes returned (R33, R34, R148, R158). -/

namespace Sys2Proof.Proofs

open Sys2Proof.Machine Sys2Proof.Safety

/-! ## READ_CARD -/

theorem laneOf_eq_none {n : Nat} (h : 5 < n) : laneOf n = none := dif_neg (by omega)

theorem laneOf_val (l : Lane) : laneOf l.val = some l := dif_pos l.isLt

/-- The formed index of the card at a position (R10). -/
theorem formed_eq_iff (i k : Index) {p : Nat} (hp : p < 65536) : i = k - BitVec.ofNat 16 p ↔ indexDistance i k = p := by
  rw [indexDistance_eq, ← BitVec.toNat_inj]
  have hi := i.isLt
  have hk := k.isLt
  simp only [BitVec.toNat_sub, BitVec.toNat_ofNat]
  omega

/-- The one card of its formed index is the card found (R10). -/
theorem findFormed_eq_some {web : List Card} {c : Card} (hc : c ∈ web) (hu : ∀ x ∈ web, x.formed = c.formed → x = c) :
    findFormed web c.formed = some c := by
  obtain ⟨x, hx⟩ := Option.isSome_iff_exists.1 (List.find?_isSome.2 ⟨c, hc, by simp⟩ :
    (web.find? (fun x => x.formed = c.formed)).isSome = true)
  have hformed : x.formed = c.formed := by simpa using List.find?_some hx
  rw [findFormed, hx, hu x (List.mem_of_find?_eq_some hx) hformed]

theorem findFormed_eq_none {web : List Card} {i : Index} (h : ∀ x ∈ web, x.formed ≠ i) : findFormed web i = none := by
  rw [findFormed, List.find?_eq_none]
  simpa using h

theorem e_mapOf (m : Option StationMap) : (mapOf m).e = (m.map StationMap.e).getD 0 := by cases m <;> rfl

/-- The web card a READ_CARD addresses (R34). -/
theorem addressed_web {v : CardView} {k : Index} (hk : v.lastIndex = some k) (l : Lane) {p : Nat} (hp : p < 32) :
    v.addressed l p =
      if p < (v.stations.map StationMap.e).getD 0 then (findFormed v.webs[l] (k - BitVec.ofNat 16 p)).map (fun c => (1, c)) else none := by
  rw [CardView.addressed, hk, ← e_mapOf]
  exact if_pos hp

theorem addressed_gate {v : CardView} {k : Index} (hk : v.lastIndex = some k) (l : Lane) (j : Nat) :
    v.addressed l (32 + j) = (v.gate.filter (fun c => decide (c.lane = l)))[j]?.map (fun c => (2, c)) := by
  rw [CardView.addressed, hk]
  exact (if_neg (by omega)).trans (by rw [Nat.add_sub_cancel_left]; rfl)

/-- The reply data of a READ_CARD (R34, R159). -/
def cardReply (k : Index) (found : Option (Byte × Card)) : List Byte := (found.map (fun x => cardBytes x.1 k x.2)).getD []

theorem exec_readCard_addressed {f : Frame} {rest : List Frame} {s : State} (h : Serves s f rest .readCard) :
    exec .readCard s = .next (replied s f rest (decideReadCard (serviceData f) s).status (decideReadCard (serviceData f) s).data) := by
  show serve .readCard decideReadCard s = _
  rw [serve_addressed _ _ f rest s h (by rw [decideReadCard_state]), decideReadCard_state]

/-- A well-formed READ_CARD is answered with the card it addresses (R34). -/
theorem exec_readCard_found {f : Frame} {rest : List Frame} {s : State} (h : Serves s f rest .readCard) {l : Lane}
    (hz : restZero (serviceData f) 2 = true) (hl : natAt (serviceData f) 0 = l) (hp : natAt (serviceData f) 1 ≤ 34) :
    exec .readCard s = .next (replied s f rest .done
      (cardReply (s.readView.lastIndex.getD 0) (s.readView.addressed l (natAt (serviceData f) 1)))) := by
  rw [exec_readCard_addressed h, decideReadCard, if_neg (by simp [hz]), hl, laneOf_val]
  simp only [if_neg (show ¬ 34 < natAt (serviceData f) 1 by omega)]
  cases s.readView.addressed l (natAt (serviceData f) 1) <;> rfl

/-! ## READ_SLOT_MAP -/

theorem exec_readSlotMap_addressed {f : Frame} {rest : List Frame} {s : State} (h : Serves s f rest .readSlotMap) :
    exec .readSlotMap s =
      .next (replied s f rest (decideReadSlotMap (serviceData f) s).status (decideReadSlotMap (serviceData f) s).data) := by
  have hstate : (decideReadSlotMap (serviceData f) s).state = s := by
    unfold decideReadSlotMap
    split <;> rfl
  show serve .readSlotMap decideReadSlotMap s = _
  rw [serve_addressed _ _ f rest s h (by rw [hstate]), hstate]

theorem byteAt_slotMapBytes (s : State) (i : Fin 48) : byteAt s.slotMapBytes i = (s.slotMap[i]).code := by
  unfold byteAt State.slotMapBytes
  simp [List.getD_eq_getElem?_getD]

theorem kindCode_eq_idxOf (k : Kind) : k.code = [Kind.load, .inspect, .card, .sealing, .gate, .stack].idxOf k := by cases k <;> decide

/-- Settles O39: the readout field by field, and the card found in the view the request sees. -/
theorem readCardAndSlotMap : Obligations.ReadCardAndSlotMap := by
  refine ⟨fun list k c => ?_, fun f rest s => ⟨fun h => ⟨fun hz => ?_, fun hz hr => ?_, fun l v hz hl hv => ?_⟩,
    fun h => ⟨fun hz => ?_, fun hz => ?_⟩⟩⟩
  · have h := readoutParts list k c
    obtain ⟨h0, h1, h2, h5, h6, h8, h10, h11, h12⟩ := h.identity
    obtain ⟨h16, h17⟩ := h.flags
    obtain ⟨hnoload, hload⟩ := h.loaded
    obtain ⟨hnoinspect, hinspect, hplaced⟩ := h.inspected
    obtain ⟨hnoseal, hseal⟩ := h.sealed
    obtain ⟨hreasons, hfirst, hgate⟩ := h.judged
    exact ⟨h.length, h0, h1, h2, h5, h6, h8, h10, h11, h12, h16, h17, hnoload, hload, hnoinspect, hinspect, hplaced, hnoseal, hseal, hreasons,
      hfirst, hgate⟩
  · rw [exec_readCard_addressed h, decideReadCard, if_pos (by simp [hz])]
    rfl
  · rw [exec_readCard_addressed h, decideReadCard, if_neg (by simp [hz])]
    by_cases h5 : 5 < natAt (serviceData f) 0
    · rw [laneOf_eq_none h5]
      rfl
    · rw [show laneOf (natAt (serviceData f) 0) = some ⟨natAt (serviceData f) 0, by omega⟩ from dif_pos (by omega)]
      simp only [if_pos (hr.resolve_left h5)]
      rfl
  · intro e web
    have hview : s.readView = v := by
      rcases hv with ⟨before, after, hviews, hplace, hbefore⟩ | ⟨hnone, rfl⟩
      · exact s.readView_kept before after v hviews hplace hbefore
      · rw [s.readView_none hnone, cardView_eq]
    have hfound := fun hp => exec_readCard_found h hz hl hp
    rw [hview] at hfound
    refine ⟨fun hlast hp => ?_, fun k hk => ⟨fun c hp he hc hpos hu => ?_, fun hp hnone => ?_, fun j hj hp => ?_⟩⟩
    · rw [hfound hp, CardView.addressed, hlast]
      rfl
    · rw [hfound (by omega), addressed_web hk l hp, if_pos he, ← (formed_eq_iff c.formed k (by omega)).2 hpos, findFormed_eq_some hc hu, hk]
      rfl
    · have haddressed : v.addressed l (natAt (serviceData f) 1) = none := by
        rw [addressed_web hk l hp]
        split
        · next he =>
          have hblank := hnone.resolve_left (by omega)
          rw [findFormed_eq_none fun x hx heq => hblank x hx ((formed_eq_iff x.formed k (by omega)).1 heq)]
          rfl
        · rfl
      rw [hfound (by omega), haddressed]
      rfl
    · rw [hfound (by omega), hp, addressed_gate hk, hk]
      unfold cardReply
      rw [Option.map_map]
      rfl
  · rw [exec_readSlotMap_addressed h, decideReadSlotMap, if_neg (by simp [hz])]
    rfl
  · rw [exec_readSlotMap_addressed h, decideReadSlotMap, if_pos hz]
    refine ⟨_, rfl, by simp [State.slotMapBytes], fun i => ?_⟩
    rw [byteAt_slotMapBytes]
    cases s.slotMap[i] with
    | unused => rfl
    | command kind l => simp only [SlotUse.code, byteOf, kindCode_eq_idxOf]
    | report kind l => simp only [SlotUse.code, byteOf, kindCode_eq_idxOf]
    | status => rfl

end Sys2Proof.Proofs
end

section
/-! PROOFS. The queue of waiting commands has no part in what a command does: every operation of the model commutes with replacing it. -/

namespace Sys2Proof.Proofs

open Sys2Proof.Machine Sys2Proof.Safety

/-- The state with another queue of waiting commands. -/
def withQueue (q : List Instr) (s : State) : State := { s with pending := q }

section

variable (q : List Instr) (s : State)

/-! ## What reads no queue -/

@[simp] theorem lane_withQueue (l : Lane) : (withQueue q s).lane l = s.lane l := rfl
@[simp] theorem zone_withQueue (l : Lane) : (withQueue q s).zone l = s.zone l := rfl
@[simp] theorem map_withQueue : (withQueue q s).map = s.map := rfl
@[simp] theorem entry_withQueue (b : Bank) (n : EntryNo) : (withQueue q s).entry b n = s.entry b n := rfl
@[simp] theorem gateOf_withQueue (l : Lane) : (withQueue q s).gateOf l = s.gateOf l := rfl
@[simp] theorem gate_withQueue : (withQueue q s).gate = s.gate := rfl
@[simp] theorem free_withQueue : (withQueue q s).free = s.free := rfl
@[simp] theorem buffer_withQueue : (withQueue q s).buffer = s.buffer := rfl
@[simp] theorem lastIndex_withQueue : (withQueue q s).lastIndex = s.lastIndex := rfl
@[simp] theorem switchBlockers_withQueue : (withQueue q s).switchBlockers = s.switchBlockers := rfl

/-! ## Choices and repetitions -/

theorem ite_apply_eq {β : Type} {f : β → β} {c : Prop} [Decidable c] {a a' b b' : β} (ha : a' = f a) (hb : b' = f b) :
    (if c then a' else b') = f (if c then a else b) := by
  rw [ha, hb, apply_ite f]

/-! ## Lanes, entries and lists -/

theorem updLane_withQueue (l : Lane) (f : LaneRec → LaneRec) : (withQueue q s).updLane l f = withQueue q (s.updLane l f) := rfl

theorem updRefs_withQueue (b : Bank) (n : EntryNo) (f : Nat → Nat) : (withQueue q s).updRefs b n f = withQueue q (s.updRefs b n f) := by
  cases b <;> rfl

theorem freeRecord_withQueue (c : Card) : (withQueue q s).freeRecord c = withQueue q (s.freeRecord c) := by
  unfold State.freeRecord
  rw [updRefs_withQueue]
  rfl

theorem eachLane_withQueue {f : Lane → State → State} (h : ∀ l t, f l (withQueue q t) = withQueue q (f l t)) :
    (withQueue q s).eachLane f = withQueue q (s.eachLane f) :=
  List.foldl_hom (withQueue q) (fun t l => h l t)

theorem release_withQueue (place : Card → Lane) (count : Card → LaneRec → LaneRec) (cs : List Card) :
    (withQueue q s).release place count cs = withQueue q (s.release place count cs) :=
  List.foldl_hom (withQueue q) (fun t c => by rw [updLane_withQueue, freeRecord_withQueue])

theorem removeGate_withQueue (p : Card → Bool) (count : Card → LaneRec → LaneRec) :
    (withQueue q s).removeGate p count = withQueue q (s.removeGate p count) :=
  release_withQueue q (s.withGate (s.gate.filter (fun c => !p c))) _ _ _

theorem createCard_withQueue (l : Lane) (k : Index) : (withQueue q s).createCard l k = withQueue q (s.createCard l k) := by
  cases h : s.free with
  | nil =>
    unfold State.createCard
    rw [free_withQueue, h]
  | cons n rest =>
    rw [createCard_of_free h, createCard_of_free (s := withQueue q s) h]
    exact updRefs_withQueue q (webCard s l k n rest) _ _ _

/-! ## Alarms -/

theorem settleStop_withQueue : (withQueue q s).settleStop = withQueue q s.settleStop :=
  ite_apply_eq (ite_apply_eq rfl rfl) rfl

theorem zoneFaultBegins_withQueue (l : Lane) (inStep : Bool) :
    (withQueue q s).zoneFaultBegins l inStep = withQueue q (s.zoneFaultBegins l inStep) :=
  ite_apply_eq rfl rfl

theorem clearLatches_withQueue (scope : Scope) : (withQueue q s).clearLatches scope = withQueue q (s.clearLatches scope) := by
  cases scope with
  | lane l => rfl
  | chip => rfl
  | all => exact congrArg State.clearChipLatches (eachLane_withQueue q s (f := fun l t => t.clearLaneLatches l) (fun _ _ => rfl))

theorem maskScope_withQueue (summary stop : Byte) (scope : Scope) :
    (withQueue q s).maskScope summary stop scope = withQueue q (s.maskScope summary stop scope) := by
  cases scope with
  | lane l => rfl
  | chip => rfl
  | all => exact eachLane_withQueue q s (fun _ _ => rfl)

/-! ## The stages of a pitch step -/

theorem applyReport_withQueue (f : Frame) (l : Lane) (k : Index) (kind : Kind) :
    (withQueue q s).applyReport f l k kind = withQueue q (s.applyReport f l k kind) := by
  unfold State.applyReport
  rw [show (withQueue q s).dueCard l kind k = s.dueCard l kind k from rfl]
  cases s.dueCard l kind k <;> rfl

theorem confirm_withQueue (l : Lane) (n : Nat) : (withQueue q s).confirm l n = withQueue q (s.confirm l n) := by
  induction n generalizing s with
  | zero => rfl
  | succ n ih =>
    cases h : s.gateOf l with
    | nil =>
      unfold State.confirm
      rw [gateOf_withQueue, h]
    | cons c rest =>
      rw [State.confirm_succ h, State.confirm_succ (s := withQueue q s) h, updLane_withQueue, freeRecord_withQueue]
      exact ih (((s.updLane l (LaneRec.countRejected c)).freeRecord c).withGate (s.gate.eraseP (fun x => x.lane = l)))

theorem applyGateCount_withQueue (l : Lane) (k : Index) (n : Nat) :
    (withQueue q s).applyGateCount l k n = withQueue q (s.applyGateCount l k n) := by
  unfold State.applyGateCount
  simp only [gateOf_withQueue, confirm_withQueue]
  exact ite_apply_eq (ite_apply_eq rfl rfl) rfl

theorem evalStationLost_withQueue (l : Lane) : (withQueue q s).evalStationLost l = withQueue q (s.evalStationLost l) :=
  ite_apply_eq rfl rfl

theorem stage1_withQueue (f : Frame) (k : Index) (applies : Bool) (l : Lane) :
    stage1 f k applies l (withQueue q s) = withQueue q (stage1 f k applies l s) := by
  have hreports : ∀ (kinds : List Kind) (t : State), kinds.foldl (fun t kind => t.applyReport f l k kind) (withQueue q t) =
      withQueue q (kinds.foldl (fun t kind => t.applyReport f l k kind) t) := fun kinds t =>
    List.foldl_hom (withQueue q) (fun t kind => applyReport_withQueue q t f l k kind)
  unfold stage1
  refine ite_apply_eq rfl ?_
  rw [hreports, show (withQueue q s).rejectsSeen f l = s.rejectsSeen f l from rfl, applyGateCount_withQueue]
  rw [ite_apply_eq (f := withQueue q) rfl rfl, evalStationLost_withQueue]

theorem stage2_withQueue (k : Index) (l : Lane) : stage2 k l (withQueue q s) = withQueue q (stage2 k l s) := by
  unfold stage2
  refine ite_apply_eq rfl ?_
  simp only [gate_withQueue, map_withQueue, removeGate_withQueue]
  split <;> rfl

theorem stage3_withQueue (k : Index) (l : Lane) : stage3 k l (withQueue q s) = withQueue q (stage3 k l s) := by
  have htake : (withQueue q s).takeChangeover k l = withQueue q (s.takeChangeover k l) := by
    unfold State.takeChangeover
    rw [lane_withQueue]
    cases (s.lane l).changeover with
    | none => rfl
    | some ch => exact ite_apply_eq (ite_apply_eq rfl rfl) rfl
  unfold stage3
  rw [lane_withQueue, htake]
  cases (s.lane l).state <;> rfl

theorem passAtPunch_withQueue (l : Lane) (c : Card) :
    (withQueue q s).passAtPunch l c = Prod.map (withQueue q) id (s.passAtPunch l c) := by
  have hfree := fun r => freeRecord_withQueue q (s.setLane l r) c
  exact Prod.ext (hfree _) rfl

theorem punch_withQueue (k : Index) (l : Lane) : (withQueue q s).punch k l = Prod.map (withQueue q) id (s.punch k l) := by
  by_cases hb : 0 < (s.lane l).blind
  · rw [punch_of_blind hb, punch_of_blind (s := withQueue q s) hb]
    rfl
  · have h0 : (s.lane l).blind = 0 := by omega
    rw [punch_of_open h0, punch_of_open (s := withQueue q s) h0, lane_withQueue]
    split
    · rfl
    · next c rest _ => exact ite_apply_eq (ite_apply_eq (passAtPunch_withQueue q (answered s l) l c) rfl) rfl

theorem stage4_withQueue (k : Index) (l : Lane) : stage4 k l (withQueue q s) = withQueue q (stage4 k l s) := by
  unfold stage4
  rw [punch_withQueue]
  rfl

theorem stage5_withQueue (k : Index) (l : Lane) : stage5 k l (withQueue q s) = withQueue q (stage5 k l s) :=
  ite_apply_eq (createCard_withQueue q s l k) rfl

theorem stage6_withQueue (k : Index) (l : Lane) : stage6 k l (withQueue q s) = withQueue q (stage6 k l s) := by
  refine List.foldl_hom (withQueue q) (fun t kind => ?_)
  unfold State.planStation
  rw [show (withQueue q t).cardAt l k ((withQueue q t).map.offset kind) = t.cardAt l k (t.map.offset kind) from rfl]
  cases t.cardAt l k (t.map.offset kind) with
  | none => rfl
  | some c => rfl

theorem stage7_withQueue (l : Lane) : stage7 l (withQueue q s) = withQueue q (stage7 l s) := ite_apply_eq rfl rfl

theorem runStage_withQueue (x : StepCtx) (n : Nat) (l : Lane) :
    runStage x n l (withQueue q s) = withQueue q (runStage x n l s) := by
  unfold runStage
  split
  · exact stage1_withQueue q s x.frame x.index x.applies l
  · exact stage2_withQueue q s x.index l
  · exact stage3_withQueue q s x.index l
  · exact stage4_withQueue q s x.index l
  · exact stage5_withQueue q s x.index l
  · exact stage6_withQueue q s x.index l
  · rw [stage7_withQueue]
    rfl
  · rfl

end

end Sys2Proof.Proofs
end

section
/-! PROOFS. The queue of waiting commands: the frame's work as a whole, the Service Unit, and every command (section 11.1). -/

namespace Sys2Proof.Proofs

open Sys2Proof.Machine Sys2Proof.Safety

section

variable (q : List Instr) (s : State)

/-! ## The pitch steps of a frame -/

theorem convert_withQueue (raw : RawCode) (inStep : Lane → Bool) :
    (withQueue q s).convert raw inStep = withQueue q (s.convert raw inStep) := by
  have hfault : ∀ (c : Prop) [Decidable c] (t : State) (l : Lane) (b : Bool),
      (if c then (withQueue q t).zoneFaultBegins l b else withQueue q t) = withQueue q (if c then t.zoneFaultBegins l b else t) :=
    fun c _ t l b => ite_apply_eq (zoneFaultBegins_withQueue q t l b) rfl
  exact congrArg (fun t : State => t.beginConversion (nextZone s.conv.zone))
    (hfault _ (s.setZone s.conv.zone ((s.zone s.conv.zone).convert raw s.conv.offset s.conv.limit)) _ _)

/-- The steps with another queue. -/
def stepsWithQueue (p : Steps) : Steps := { p with state := withQueue q p.state }

theorem state_stepsWithQueue (p : Steps) : (stepsWithQueue q p).state = withQueue q p.state := rfl

theorem advance_withQueue (x : StepCtx) (l : Lane) (p : Steps) : (stepsWithQueue q p).advance x l = stepsWithQueue q (p.advance x l) :=
  ite_apply_eq (congrArg (Steps.mk · (p.next.set l (p.next[l] + 1))) (runStage_withQueue q p.state x p.next[l] l)) rfl

theorem tick_withQueue (x : StepCtx) (t : Tick) (p : Steps) : (stepsWithQueue q p).tick x t = stepsWithQueue q (p.tick x t) := by
  cases t with
  | stage l => exact advance_withQueue q x l p
  | conversion raw => exact congrArg (Steps.mk · p.next) (convert_withQueue q p.state raw (p.inProgress x))

theorem finish_withQueue (x : StepCtx) (l : Lane) (p : Steps) : (stepsWithQueue q p).finish x l = stepsWithQueue q (p.finish x l) :=
  ((show Function.Semiconj (stepsWithQueue q) (Steps.advance x l) (Steps.advance x l) from
    fun p => (advance_withQueue q x l p).symm).iterate_right 7 p).symm

theorem runPitchSteps_withQueue (x : StepCtx) (ticks : List Tick) :
    runPitchSteps x ticks (withQueue q s) = withQueue q (runPitchSteps x ticks s) := by
  have hticks : ∀ p : Steps, ticks.foldl (Steps.tick x) (stepsWithQueue q p) = stepsWithQueue q (ticks.foldl (Steps.tick x) p) := fun p =>
    List.foldl_hom (stepsWithQueue q) (fun p t => tick_withQueue q x t p)
  have hfinish : ∀ (ls : List Lane) (p : Steps), ls.foldl (fun p l => p.finish x l) (stepsWithQueue q p) =
      stepsWithQueue q (ls.foldl (fun p l => p.finish x l) p) := fun ls p =>
    List.foldl_hom (stepsWithQueue q) (fun p l => finish_withQueue q x l p)
  have hstart : Steps.start x (withQueue q s) = stepsWithQueue q (Steps.start x s) := rfl
  unfold runPitchSteps
  rw [hstart, hticks, hfinish, state_stepsWithQueue]

/-! ## Continuity -/

theorem gapPart_withQueue (last k : Index) (n : Nat) (l : Lane) :
    gapPart last k n l (withQueue q s) = withQueue q (gapPart last k n l s) := by
  unfold gapPart
  split
  · exact removeGate_withQueue q s _ _
  · exact release_withQueue q (s.updLane l (fun r => { r with web := (s.lane l).web.dropWhile (retiredAt s.map.e k) })) _ _ _
  · rfl
  · rfl

theorem gapHandling_withQueue (last k : Index) (order : List Lane) :
    gapHandling last k order (withQueue q s) = withQueue q (gapHandling last k order s) := by
  have hadvance : ∀ (p : Steps) (l : Lane), gapAdvance last k (stepsWithQueue q p) l = stepsWithQueue q (gapAdvance last k p l) :=
    fun p l => ite_apply_eq (congrArg (Steps.mk · (p.next.set l (p.next[l] + 1))) (gapPart_withQueue q p.state last k p.next[l] l)) rfl
  have hfold : ∀ (ls : List Lane) (p : Steps), ls.foldl (gapAdvance last k) (stepsWithQueue q p) =
      stepsWithQueue q (ls.foldl (gapAdvance last k) p) := fun ls p => List.foldl_hom (stepsWithQueue q) hadvance
  exact congrArg Steps.state (hfold _ ⟨s.latchChip .indexGap (bytes16 last ++ bytes16 k), Vector.replicate 6 0⟩)

theorem lostTrack_withQueue (last k : Index) : lostTrack last k (withQueue q s) = withQueue q (lostTrack last k s) := by
  have hcards : withoutCards (withQueue q s) = withQueue q (withoutCards s) := by
    unfold withoutCards withoutGate
    rw [removeGate_withQueue]
    exact eachLane_withQueue q _ (fun l t => release_withQueue q (t.updLane l (fun r => { r with web := [] })) _ _ _)
  rw [lostTrack_eq, lostTrack_eq, hcards]
  exact eachLane_withQueue q _ (fun l t => ite_apply_eq rfl rfl)

theorem continuity_withQueue (cls : FrameClass) (k : Index) (order : List Lane) :
    continuity cls k order (withQueue q s) = withQueue q (continuity cls k order s) := by
  unfold continuity
  rw [lastIndex_withQueue]
  split
  · rfl
  · exact gapHandling_withQueue q s _ k order
  · exact lostTrack_withQueue q s _ k
  · rfl

theorem decideSwitch_withQueue (k : Index) : (withQueue q s).decideSwitch k = withQueue q (s.decideSwitch k) := by
  unfold State.decideSwitch
  rw [show (withQueue q s).pendingSwitch = s.pendingSwitch from rfl, switchBlockers_withQueue]
  cases s.pendingSwitch with
  | none => rfl
  | some x =>
    refine ite_apply_eq ?_ rfl
    cases s.switchBlockers <;> rfl

theorem beginCycle_withQueue (f : Frame) (cls : FrameClass) (order : List Lane) :
    beginCycle f cls order (withQueue q s) = withQueue q (beginCycle f cls order s) := by
  have haccepted : ∀ t : State, frameAccepted (frameIndex f) (withQueue q t) = withQueue q (frameAccepted (frameIndex f) t) := fun t => by
    unfold frameAccepted
    rw [show ({ withQueue q t with lastIndex := some (frameIndex f) } : State) =
      withQueue q { t with lastIndex := some (frameIndex f) } from rfl, decideSwitch_withQueue]
    exact eachLane_withQueue q _ (fun _ _ => rfl)
  rw [beginCycle_eq, beginCycle_eq, show frameTaken cls (withQueue q s) = withQueue q (frameTaken cls s) from rfl, continuity_withQueue,
    haccepted]
  exact ite_apply_eq rfl rfl

/-! ## Slots -/

/-- The work with another queue. -/
def workWithQueue (w : Work) : Work := { w with state := withQueue q w.state }

theorem writeCommand_withQueue (isRepeat : Bool) (i : Nat) (kind : Kind) (l : Lane) (w : Work) :
    writeCommand isRepeat i kind l (workWithQueue q w) = workWithQueue q (writeCommand isRepeat i kind l w) := by
  unfold writeCommand
  rw [show (workWithQueue q w).state.planned isRepeat kind l = w.state.planned isRepeat kind l from rfl]
  cases w.state.planned isRepeat kind l with
  | none => rfl
  | some cmd => exact ite_apply_eq (ite_apply_eq rfl rfl) rfl

theorem compareCommand_withQueue (isRepeat : Bool) (i : Nat) (kind : Kind) (l : Lane) (w : Work) :
    compareCommand isRepeat i kind l (workWithQueue q w) = workWithQueue q (compareCommand isRepeat i kind l w) := by
  unfold compareCommand
  refine ite_apply_eq ?_ (ite_apply_eq rfl rfl)
  rw [show compareSlot kind ((workWithQueue q w).state.planned isRepeat kind l) (slotBytes (workWithQueue q w).frame i) =
    compareSlot kind (w.state.planned isRepeat kind l) (slotBytes w.frame i) from rfl]
  cases compareSlot kind (w.state.planned isRepeat kind l) (slotBytes w.frame i) <;> rfl

theorem commandSlot_withQueue (isRepeat : Bool) (w : Work) (entry : SlotUse × Nat) :
    commandSlot isRepeat (workWithQueue q w) entry = workWithQueue q (commandSlot isRepeat w entry) := by
  unfold commandSlot
  rw [show (workWithQueue q w).state.role = w.state.role from rfl]
  cases entry.1 with
  | command kind l =>
    cases w.state.role with
    | active => exact writeCommand_withQueue q isRepeat entry.2 kind l w
    | monitor => exact compareCommand_withQueue q isRepeat entry.2 kind l w
    | bypass => rfl
  | unused => rfl
  | report kind l => rfl
  | status => rfl

theorem writeStatus_withQueue (w : Work) : writeStatus (workWithQueue q w) = workWithQueue q (writeStatus w) := by
  unfold writeStatus
  rw [show (workWithQueue q w).state.slotOf .status = w.state.slotOf .status from rfl]
  cases w.state.slotOf .status with
  | none => rfl
  | some i => exact ite_apply_eq rfl rfl

theorem finishCycle_withQueue (isRepeat : Bool) (f : Frame) :
    finishCycle isRepeat f (withQueue q s) = workWithQueue q (finishCycle isRepeat f s) := by
  have hslots : ∀ (entries : List (SlotUse × Nat)) (w : Work), entries.foldl (commandSlot isRepeat) (workWithQueue q w) =
      workWithQueue q (entries.foldl (commandSlot isRepeat) w) := fun entries w =>
    List.foldl_hom (workWithQueue q) (fun w entry => commandSlot_withQueue q isRepeat w entry)
  have hstatus := writeStatus_withQueue q (s.slotMap.toList.zipIdx.foldl (commandSlot isRepeat) ⟨s, f⟩)
  rw [← hslots] at hstatus
  exact congrArg (fun w : Work => { w with frame := withCrc w.frame }) hstatus

theorem processCycle_withQueue (f : Frame) (order : List Lane) (ticks : List Tick) :
    processCycle f order ticks (withQueue q s) = workWithQueue q (processCycle f order ticks s) := by
  unfold processCycle
  simp only [lastIndex_withQueue, beginCycle_withQueue, runPitchSteps_withQueue, finishCycle_withQueue]
  rfl

end

end Sys2Proof.Proofs
end

section
/-! PROOFS. The queue of waiting commands: the Service Unit's decisions, and every command (section 11.1). -/

namespace Sys2Proof.Proofs

open Sys2Proof.Machine Sys2Proof.Safety

/-! ## Decisions -/

/-- The answer with another queue. -/
def answerWithQueue (q : List Instr) (a : Answer) : Answer := { a with state := withQueue q a.state }

/-- A decision of the Service Unit that does not look at the queue. -/
def QueueFreeDecision (decide : List Byte → State → Answer) : Prop :=
  ∀ q d s, decide d (withQueue q s) = answerWithQueue q (decide d s)

section

variable (q : List Instr) (s : State)

theorem laneCommand_withQueue (usesEntry usesIndex : Bool) (d : List Byte) {decide : State → Lane → Answer}
    (h : ∀ l, decide (withQueue q s) l = answerWithQueue q (decide s l)) :
    laneCommand usesEntry usesIndex d (withQueue q s) (decide (withQueue q s)) =
      answerWithQueue q (laneCommand usesEntry usesIndex d s (decide s)) := by
  refine ite_apply_eq rfl ?_
  cases laneOf (natAt d 0) with
  | none => rfl
  | some l => exact h l

theorem runLane_withQueue (d : List Byte) (l : Lane) : runLane d (withQueue q s) l = answerWithQueue q (runLane d s l) := by
  have hstart : ∀ e, (withQueue q s).startLane l e = withQueue q (s.startLane l e) := fun e =>
    ite_apply_eq (zoneFaultBegins_withQueue q (s.updLane l (fun r => { r with state := .run, assigned := e })) l false) rfl
  unfold runLane
  rw [lane_withQueue]
  cases (s.lane l).state with
  | idle =>
    cases entryByte d with
    | none => rfl
    | some n =>
      refine ite_apply_eq rfl ?_
      rw [show (withQueue q s).activeEntry n = s.activeEntry n from rfl]
      cases s.activeEntry n with
      | none => rfl
      | some e => exact congrArg (takeLane .done false l) (hstart e)
  | drain =>
    cases entryByte d with
    | none => rfl
    | some n =>
      dsimp only
      rw [show (withQueue q s).activeEntry n = s.activeEntry n from rfl]
      cases s.activeEntry n <;> rfl
  | run => rfl
  | fault => rfl

theorem drainLane_withQueue (l : Lane) : drainLane (withQueue q s) l = answerWithQueue q (drainLane s l) := by
  unfold drainLane
  rw [lane_withQueue]
  cases (s.lane l).state <;> rfl

theorem purgeLane_withQueue (l : Lane) : purgeLane (withQueue q s) l = answerWithQueue q (purgeLane s l) := by
  unfold purgeLane
  rw [lane_withQueue]
  cases (s.lane l).state <;> rfl

theorem clearLane_withQueue (l : Lane) : clearLane (withQueue q s) l = answerWithQueue q (clearLane s l) := by
  unfold clearLane
  simp only [lane_withQueue]
  cases (s.lane l).state with
  | fault => exact ite_apply_eq rfl rfl
  | idle => rfl
  | run => rfl
  | drain => rfl

theorem changeoverLane_withQueue (d : List Byte) (l : Lane) :
    changeoverLane d (withQueue q s) l = answerWithQueue q (changeoverLane d s l) := by
  unfold changeoverLane
  cases entryByte d with
  | none => rfl
  | some n =>
    dsimp only
    cases entryOf n with
    | none => rfl
    | some e =>
      rw [lane_withQueue]
      cases (s.lane l).state <;> rfl

theorem readZone_withQueue (during : List (List RawCode)) (p : State × List Byte) (l : Lane) :
    readZone during (Prod.map (withQueue q) id p) l = Prod.map (withQueue q) id (readZone during p l) := by
  have hfold : ∀ (raws : List RawCode) (t : State), raws.foldl (fun t raw => t.convert raw (fun _ => false)) (withQueue q t) =
      withQueue q (raws.foldl (fun t raw => t.convert raw (fun _ => false)) t) := fun raws t =>
    List.foldl_hom (withQueue q) (fun t raw => convert_withQueue q t raw _)
  exact congrArg (fun t : State => (t, p.2 ++ (t.zone l).bytes)) (hfold _ p.1)

end

theorem queueFree_identify : QueueFreeDecision decideIdentify := fun q d s => by
  unfold decideIdentify
  exact ite_apply_eq rfl rfl

theorem queueFree_mapSlot : QueueFreeDecision decideMapSlot := fun q d s => by
  unfold decideMapSlot
  exact ite_apply_eq rfl (ite_apply_eq rfl (ite_apply_eq rfl (ite_apply_eq rfl rfl)))

theorem queueFree_readSlotMap : QueueFreeDecision decideReadSlotMap := fun q d s => by
  unfold decideReadSlotMap
  exact ite_apply_eq rfl rfl

theorem queueFree_setStations : QueueFreeDecision decideSetStations := fun q d s => by
  unfold decideSetStations
  exact ite_apply_eq rfl (ite_apply_eq rfl (ite_apply_eq rfl rfl))

theorem queueFree_readStations : QueueFreeDecision decideReadStations := fun q d s => by
  unfold decideReadStations
  exact ite_apply_eq rfl rfl

theorem queueFree_switchBank : QueueFreeDecision decideSwitchBank := fun q d s => by
  unfold decideSwitchBank
  exact ite_apply_eq rfl (ite_apply_eq rfl rfl)

theorem queueFree_switchBankCancel : QueueFreeDecision decideSwitchBankCancel := fun q d s => by
  unfold decideSwitchBankCancel
  exact ite_apply_eq rfl (ite_apply_eq rfl rfl)

theorem restart_withQueue (q : List Instr) (s : State) : (withQueue q s).restart = withQueue q s.restart := by
  simp only [State.restart, withQueue]

theorem queueFree_restart : QueueFreeDecision decideRestart := fun q d s => by
  unfold decideRestart
  exact ite_apply_eq (congrArg (Answer.mk .done []) (restart_withQueue q s)) rfl

theorem queueFree_laneChangeover : QueueFreeDecision decideLaneChangeover := fun q d s => by
  unfold decideLaneChangeover
  exact ite_apply_eq rfl (laneCommand_withQueue q s _ _ d (decide := changeoverLane d) (changeoverLane_withQueue q s d))

theorem queueFree_loadRecipe : QueueFreeDecision decideLoadRecipe := fun q d s => by
  unfold decideLoadRecipe
  refine ite_apply_eq rfl ?_
  cases bankOf (byteAt d 0) with
  | none => rfl
  | some b =>
    cases entryOf (natAt d 1) with
    | none => rfl
    | some n =>
      refine ite_apply_eq rfl (ite_apply_eq rfl (ite_apply_eq ?_ ?_))
      · cases b <;> rfl
      · cases (recipeOf d 3).filter Recipe.inRange with
        | none => rfl
        | some r => cases b <;> rfl

theorem queueFree_readRecipe : QueueFreeDecision decideReadRecipe := fun q d s => by
  unfold decideReadRecipe
  refine ite_apply_eq rfl ?_
  cases bankOf (byteAt d 0) with
  | none => rfl
  | some b => cases entryOf (natAt d 1) <;> rfl

theorem queueFree_setRole : QueueFreeDecision decideSetRole := fun q d s => by
  unfold decideSetRole
  refine ite_apply_eq rfl ?_
  cases roleOf (byteAt d 0) <;> rfl

theorem queueFree_readState : QueueFreeDecision decideReadState := fun q d s => by
  unfold decideReadState
  refine ite_apply_eq rfl ?_
  split <;> rfl

theorem queueFree_readCard : QueueFreeDecision decideReadCard := fun q d s => by
  unfold decideReadCard
  refine ite_apply_eq rfl ?_
  cases laneOf (natAt d 0) with
  | none => rfl
  | some l =>
    refine ite_apply_eq rfl ?_
    rw [show (withQueue q s).readView = s.readView from rfl]
    cases s.readView.addressed l (natAt d 1) <;> rfl

theorem queueFree_readCounters : QueueFreeDecision decideReadCounters := fun q d s => by
  unfold decideReadCounters
  refine ite_apply_eq rfl ?_
  cases laneOf (natAt d 0) with
  | none => rfl
  | some l => exact ite_apply_eq rfl rfl

theorem queueFree_clearCounters : QueueFreeDecision decideClearCounters := fun q d s => by
  have heach := eachLane_withQueue q s (f := fun l t => t.updLane l LaneRec.clearCounters) (fun _ _ => rfl)
  unfold decideClearCounters
  refine ite_apply_eq rfl (ite_apply_eq ?_ ?_)
  · exact congrArg (fun t : State => (⟨.done, [0xFF], { t with ring := ⟨0, 0, 0, 0, 0⟩ }⟩ : Answer)) heach
  · cases laneOf (natAt d 0) <;> rfl

theorem queueFree_readAlarms : QueueFreeDecision decideReadAlarms := fun q d s => by
  unfold decideReadAlarms
  refine ite_apply_eq rfl ?_
  cases scopeOf (natAt d 0) with
  | none => rfl
  | some scope =>
    dsimp only
    rw [clearLatches_withQueue, settleStop_withQueue]
    cases scope <;> rfl

theorem queueFree_setAlarmMasks : QueueFreeDecision decideSetAlarmMasks := fun q d s => by
  unfold decideSetAlarmMasks
  refine ite_apply_eq rfl ?_
  cases scopeOf (natAt d 0) with
  | none => rfl
  | some scope =>
    dsimp only
    rw [maskScope_withQueue, settleStop_withQueue]
    rfl

theorem queueFree_setZone : QueueFreeDecision decideSetZone := fun q d s => by
  unfold decideSetZone
  refine ite_apply_eq rfl ?_
  cases laneOf (natAt d 0) with
  | none => rfl
  | some l => exact ite_apply_eq rfl rfl

theorem queueFree_readZones (during : List (List RawCode)) : QueueFreeDecision (decideReadZones during) := fun q d s => by
  have hfold : ∀ (ls : List Lane) (p : State × List Byte), ls.foldl (readZone during) (Prod.map (withQueue q) id p) =
      Prod.map (withQueue q) id (ls.foldl (readZone during) p) := fun ls p =>
    List.foldl_hom (Prod.map (withQueue q) id) (fun p l => readZone_withQueue q during p l)
  unfold decideReadZones
  refine ite_apply_eq ?_ rfl
  exact congrArg (fun p : State × List Byte => (⟨.done, p.2, p.1⟩ : Answer)) (hfold (List.finRange 6) (s, []))

/-! ## Commands -/

/-- A command that takes every state to a next one and does not look at the queue. -/
def QueueFree (run : State → Result) : Prop :=
  ∃ next : State → State, (∀ s, run s = .next (next s)) ∧ ∀ q s, next (withQueue q s) = withQueue q (next s)

theorem sendHead_withQueue (q : List Instr) (s : State) (f : Frame) : (withQueue q s).sendHead f = withQueue q (s.sendHead f) := by
  unfold State.sendHead
  rw [buffer_withQueue]
  cases s.buffer <;> rfl

theorem answerFrame_withQueue {decide : List Byte → State → Answer} (h : QueueFreeDecision decide) (f : Frame) (r : Request)
    (q : List Instr) (s : State) : answerFrame f r decide (withQueue q s) = withQueue q (answerFrame f r decide s) := by
  unfold answerFrame
  rw [h q]
  exact ite_apply_eq (ite_apply_eq (sendHead_withQueue q s _) (sendHead_withQueue q _ _)) (sendHead_withQueue q _ _)

/-- A service command whose decision does not look at the queue does not look at it either. -/
theorem queueFree_serve {decide : List Byte → State → Answer} (h : QueueFreeDecision decide) (r : Request) :
    QueueFree (serve r decide) := by
  refine ⟨_, fun s => rfl, fun q s => ?_⟩
  rw [show (withQueue q s).handed = s.handed from rfl]
  cases s.handed with
  | none => rfl
  | some f => exact ite_apply_eq (answerFrame_withQueue h f r q s) rfl

theorem queueFree_frameArrival (f : Frame) : QueueFree (execFrameArrival f) :=
  ⟨_, fun _ => rfl, fun _ _ => ite_apply_eq (ite_apply_eq rfl (ite_apply_eq rfl rfl)) rfl⟩

theorem queueFree_frameDeparture : QueueFree execFrameDeparture := by
  refine ⟨_, fun _ => rfl, fun q s => ite_apply_eq ?_ rfl⟩
  rw [buffer_withQueue]
  cases s.buffer <;> rfl

theorem handOnCycle_withQueue (q : List Instr) (s : State) (f : Frame) :
    (withQueue q s).handOnCycle f = withQueue q (s.handOnCycle f) := by
  have hviews : (if classify (withQueue q s).lastIndex (frameIndex f) = .again then withQueue q s else (withQueue q s).holdViews) =
      withQueue q (if classify s.lastIndex (frameIndex f) = .again then s else s.holdViews) := ite_apply_eq rfl rfl
  exact congrArg (fun t : State => { t with phase := .cycle }) hviews

theorem queueFree_frameProcessing : QueueFree execFrameProcessing := by
  refine ⟨_, fun _ => rfl, fun q s => ite_apply_eq ?_ rfl⟩
  simp only [buffer_withQueue, show (withQueue q s).nodeAddr = s.nodeAddr from rfl, handOnCycle_withQueue]
  split
  · rfl
  · split <;> rfl

theorem queueFree_cycleFrame (order : List Lane) (ticks : List Tick) : QueueFree (execCycleFrame order ticks) := by
  refine ⟨_, fun _ => rfl, fun q s => ite_apply_eq ?_ rfl⟩
  rw [buffer_withQueue]
  cases s.buffer with
  | nil => rfl
  | cons f rest =>
    dsimp only
    rw [processCycle_withQueue]
    exact sendHead_withQueue q _ _

theorem queueFree_conversionEnd (raw : RawCode) : QueueFree (execConversionEnd raw) :=
  ⟨fun s => if s.power = .running then s.convert raw (fun _ => false) else s, fun _ => rfl,
    fun q s => ite_apply_eq (convert_withQueue q s raw _) rfl⟩

/-- A command that replaces the state but for the queue. -/
theorem queueFree_of_reset {run : State → Result} (u : State) (h : ∀ s, run s = .next (withQueue s.pending u)) : QueueFree run :=
  ⟨fun s => withQueue s.pending u, h, fun _ _ => rfl⟩

theorem queueFree_deviceReset (addr : BitVec 6) (roleHigh : Bool) : QueueFree (execDeviceReset addr roleHigh) :=
  queueFree_of_reset { State.reset with nodeAddr := addr, role := strapRole addr roleHigh, bypdrv := validAddress addr } fun s => by
    simp only [execDeviceReset, withQueue]

theorem queueFree_supplyRemoved : QueueFree execSupplyRemoved :=
  queueFree_of_reset { State.reset with power := .unpowered, bypdrv := false } fun s => by
    simp only [execSupplyRemoved, withQueue]

/-- Every command. -/
theorem queueFree_exec (c : Instr) : QueueFree (exec c) := by
  have hlane : ∀ (usesEntry usesIndex : Bool) (f : LaneRec → LaneRec),
      QueueFreeDecision (fun d s => laneCommand usesEntry usesIndex d s (flagLane f s)) := fun _ _ f q d s =>
    laneCommand_withQueue q s _ _ d (decide := flagLane f) (fun _ => rfl)
  cases c with
  | deviceReset addr roleHigh => exact queueFree_deviceReset addr roleHigh
  | frameArrival bytes => exact queueFree_frameArrival bytes
  | frameDeparture => exact queueFree_frameDeparture
  | frameProcessing => exact queueFree_frameProcessing
  | cycleFrame order ticks => exact queueFree_cycleFrame order ticks
  | pitchCountSaturation => exact ⟨_, fun _ => rfl, fun _ _ => ite_apply_eq rfl rfl⟩
  | conversionEnd raw => exact queueFree_conversionEnd raw
  | zoneFaultEntryAfterStep lane => exact ⟨_, fun _ => rfl, fun _ _ => ite_apply_eq rfl rfl⟩
  | identify => exact queueFree_serve queueFree_identify _
  | readState => exact queueFree_serve queueFree_readState _
  | mapSlot => exact queueFree_serve queueFree_mapSlot _
  | readSlotMap => exact queueFree_serve queueFree_readSlotMap _
  | setStations => exact queueFree_serve queueFree_setStations _
  | readStations => exact queueFree_serve queueFree_readStations _
  | loadRecipe => exact queueFree_serve queueFree_loadRecipe _
  | readRecipe => exact queueFree_serve queueFree_readRecipe _
  | switchBank => exact queueFree_serve queueFree_switchBank _
  | switchBankCancel => exact queueFree_serve queueFree_switchBankCancel _
  | laneRun => exact queueFree_serve (fun q d s => laneCommand_withQueue q s _ _ d (decide := runLane d) (runLane_withQueue q s d)) _
  | laneDrain => exact queueFree_serve (fun q d s => laneCommand_withQueue q s _ _ d (decide := drainLane) (drainLane_withQueue q s)) _
  | lanePurge => exact queueFree_serve (fun q d s => laneCommand_withQueue q s _ _ d (decide := purgeLane) (purgeLane_withQueue q s)) _
  | laneClear => exact queueFree_serve (fun q d s => laneCommand_withQueue q s _ _ d (decide := clearLane) (clearLane_withQueue q s)) _
  | laneChangeover => exact queueFree_serve queueFree_laneChangeover _
  | forceOn => exact queueFree_serve (hlane _ _ _) _
  | forceOff => exact queueFree_serve (hlane _ _ _) _
  | autoPurgeOn => exact queueFree_serve (hlane _ _ _) _
  | autoPurgeOff => exact queueFree_serve (hlane _ _ _) _
  | readCard => exact queueFree_serve queueFree_readCard _
  | readCounters => exact queueFree_serve queueFree_readCounters _
  | clearCounters => exact queueFree_serve queueFree_clearCounters _
  | readAlarms => exact queueFree_serve queueFree_readAlarms _
  | setAlarmMasks => exact queueFree_serve queueFree_setAlarmMasks _
  | setZone => exact queueFree_serve queueFree_setZone _
  | readZones during => exact queueFree_serve (queueFree_readZones during) _
  | setRole => exact queueFree_serve queueFree_setRole _
  | restart => exact queueFree_serve queueFree_restart _
  | unknownRequest => exact queueFree_serve (fun _ _ _ => rfl) _
  | resetAsserted => exact ⟨_, fun _ => rfl, fun _ _ => ite_apply_eq rfl rfl⟩
  | supplyRemoved => exact queueFree_supplyRemoved

/-- Settles O2: a command commutes with replacing the queue; that it keeps the queue is the case of the queue the state has. -/
theorem commandsKeepQueue : Obligations.CommandsKeepQueue := by
  intro c s t q h
  obtain ⟨next, hnext, hcomm⟩ := queueFree_exec c
  have ht : next s = t := Host.Outcome.next.inj ((hnext s).symm.trans h)
  have hkept : next s = withQueue s.pending (next s) := hcomm s.pending s
  refine ⟨?_, (hnext (withQueue q s)).trans ?_⟩
  · rw [← ht, hkept]
    rfl
  · rw [hcomm, ht]
    rfl

end Sys2Proof.Proofs
end

section
/-! PROOFS. The zones stay sound at the end of a conversion (R107 to R112). -/

namespace Sys2Proof.Machine

open Sys2Proof.Safety

/-! ## The items of a zone -/

/-- The items of a zone are in range, whatever its state (R107 to R110, R112). -/
structure Zone.InRange (z : Zone) : Prop where
  offset : -7 ≤ z.offset ∧ z.offset ≤ 7
  limit : 1 ≤ z.limit ∧ z.limit ≤ 255
  length : z.history.length ≤ 4
  codes : ∀ c ∈ z.history, c ≤ 1023
  temperature : z.z ≤ 3069
  streak : z.streak ≤ 255

/-- The history and the streak are those of the zone's state (R109, R110). -/
def Zone.Fits (z : Zone) : Prop :=
  match z.state with
  | .warming => z.history.length < 4
  | .ready => z.history.length = 4 ∧ z.streak = 0
  | .holding => z.history.length = 4
  | .fault => True

theorem zoneSound_iff (z : Zone) : ZoneSound z ↔ z.InRange ∧ z.Fits := by
  constructor
  · rintro ⟨holow, hohigh, hllow, hlhigh, hlen, hcodes, hz, hstreak, hfull, hshort, hready⟩
    refine ⟨⟨⟨holow, hohigh⟩, ⟨hllow, hlhigh⟩, hlen, hcodes, hz, hstreak⟩, ?_⟩
    unfold Zone.Fits
    split
    · next h => exact hshort h
    · next h => exact ⟨hfull (.inl h), hready h⟩
    · next h => exact hfull (.inr h)
    · trivial
  · rintro ⟨⟨⟨holow, hohigh⟩, ⟨hllow, hlhigh⟩, hlen, hcodes, hz, hstreak⟩, hfits⟩
    refine ⟨holow, hohigh, hllow, hlhigh, hlen, hcodes, hz, hstreak, fun h => ?_, fun h => ?_, fun h => ?_⟩
    · unfold Zone.Fits at hfits
      rcases h with h | h
      · rw [h] at hfits; exact hfits.1
      · rw [h] at hfits; exact hfits
    · rw [Zone.Fits, h] at hfits; exact hfits
    · rw [Zone.Fits, h] at hfits; exact hfits.2

/-! ## A valid code -/

theorem corrected_le (raw : RawCode) (offset : Int) : corrected raw offset ≤ 1023 := by unfold corrected; omega

theorem length_joinHistory (h : List Nat) (code : Nat) (hl : h.length ≤ 4) :
    (joinHistory h code).length = min (h.length + 1) 4 := by
  unfold joinHistory
  split
  · simp only [List.length_append, List.length_singleton]; omega
  · simp only [List.length_append, List.length_tail, List.length_singleton]; omega

theorem mem_joinHistory {h : List Nat} {code c : Nat} (hc : c ∈ joinHistory h code) : c ∈ h ∨ c = code := by
  unfold joinHistory at hc
  split at hc
  · simpa using hc
  · rcases List.mem_append.1 hc with hc | hc
    · exact .inl (List.mem_of_mem_tail hc)
    · exact .inr (by simpa using hc)

/-- Z of four codes of 10 bits fits its range (R109). -/
theorem zoneTemperature_le {h : List Nat} (hl : h.length ≤ 4) (hc : ∀ c ∈ h, c ≤ 1023) : zoneTemperature h ≤ 3069 := by
  have hsum : h.sum ≤ h.length * 1023 := List.sum_le_card_nsmul h 1023 hc
  unfold zoneTemperature
  omega

theorem Zone.InRange.join {z : Zone} (hz : z.InRange) {code : Nat} (hcode : code ≤ 1023) : (z.join code).InRange := by
  have hlen : (joinHistory z.history code).length ≤ 4 := by rw [length_joinHistory _ _ hz.length]; omega
  have hcodes : ∀ c ∈ joinHistory z.history code, c ≤ 1023 := fun c hc => by
    rcases mem_joinHistory hc with hc | rfl
    · exact hz.codes c hc
    · exact hcode
  refine ⟨hz.offset, hz.limit, hlen, hcodes, ?_, Nat.zero_le _⟩
  show (if _ then _ else _) ≤ _
  split
  · exact zoneTemperature_le hlen hcodes
  · exact hz.temperature

theorem Zone.InRange.setState {z : Zone} (hz : z.InRange) (st : ZoneState) : Zone.InRange { z with state := st } :=
  ⟨hz.offset, hz.limit, hz.length, hz.codes, hz.temperature, hz.streak⟩

theorem Zone.length_history_join (z : Zone) (hz : z.InRange) (code : Nat) :
    (z.join code).history.length = min (z.history.length + 1) 4 := length_joinHistory _ _ hz.length

/-- A zone with a full history that takes a valid code is READY (R110). -/
theorem zoneSound_ready_join {z : Zone} (hz : z.InRange) (hfull : z.history.length = 4) {code : Nat} (hcode : code ≤ 1023) :
    ZoneSound { z.join code with state := .ready } := by
  refine (zoneSound_iff _).2 ⟨(hz.join hcode).setState .ready, ?_, rfl⟩
  show (z.join code).history.length = 4
  rw [z.length_history_join hz, hfull]
  rfl

theorem zoneSound_validCode {z : Zone} (h : ZoneSound z) {code : Nat} (hcode : code ≤ 1023) : ZoneSound (z.validCode code) := by
  obtain ⟨hz, hfits⟩ := (zoneSound_iff z).1 h
  unfold Zone.validCode
  unfold Zone.Fits at hfits
  split
  · next hs =>
    refine (zoneSound_iff _).2 ⟨(hz.join hcode).setState _, ?_⟩
    dsimp only
    split
    · next hfull => exact ⟨hfull, rfl⟩
    · next hshort => exact Nat.lt_of_le_of_ne (hz.join hcode).length hshort
  · next hs => rw [hs] at hfits; exact zoneSound_ready_join hz hfits.1 hcode
  · next hs => rw [hs] at hfits; exact zoneSound_ready_join hz hfits hcode
  · exact (zoneSound_iff _).2 ⟨⟨hz.offset, hz.limit, by simp, by simpa using hcode, hz.temperature, Nat.zero_le _⟩, by
      show [code].length < 4; simp⟩

/-! ## An invalid code -/

theorem zoneSound_invalidCode {z : Zone} (h : ZoneSound z) (limit : Nat) : ZoneSound (z.invalidCode limit) := by
  obtain ⟨hz, hfits⟩ := (zoneSound_iff z).1 h
  have hstreak : Zone.InRange { z with streak := min (z.streak + 1) 255 } :=
    ⟨hz.offset, hz.limit, hz.length, hz.codes, hz.temperature, by show min _ _ ≤ 255; omega⟩
  have hfault : ZoneSound { z with streak := min (z.streak + 1) 255, state := .fault } :=
    (zoneSound_iff _).2 ⟨hstreak.setState .fault, trivial⟩
  have hholding : z.history.length = 4 → ZoneSound { z with streak := min (z.streak + 1) 255, state := .holding } := fun hfull =>
    (zoneSound_iff _).2 ⟨hstreak.setState .holding, hfull⟩
  unfold Zone.invalidCode
  unfold Zone.Fits at hfits
  dsimp only
  split
  · next hs =>
    rw [hs] at hfits
    split
    · exact hfault
    · exact (zoneSound_iff _).2 ⟨hstreak, by rw [Zone.Fits, hs]; exact hfits⟩
  · next hs =>
    rw [hs] at hfits
    split
    · exact hfault
    · exact hholding hfits.1
  · next hs =>
    rw [hs] at hfits
    split
    · exact hfault
    · exact hholding hfits
  · next hs => exact (zoneSound_iff _).2 ⟨hstreak, by rw [Zone.Fits, hs]; trivial⟩

/-- The end of a conversion keeps a zone sound (R108 to R111). -/
theorem zoneSound_convert {z : Zone} (h : ZoneSound z) (raw : RawCode) (offset : Int) (limit : Nat) :
    ZoneSound (z.convert raw offset limit) := by
  unfold Zone.convert
  split
  · exact zoneSound_validCode h (corrected_le raw offset)
  · exact zoneSound_invalidCode h limit

theorem zoneSound_reset : ZoneSound Zone.reset := by decide

end Sys2Proof.Machine
end

section
/-! PROOFS. What every operation of the tracking but the end of a conversion and the entry to FAULT after it leaves of the zones and of the
entries that are due: the zones stand, no entry to FAULT falls due or is taken, and a lane that changes its state enters IDLE or FAULT (R43,
R45, R46). -/

namespace Sys2Proof.Machine

open Sys2Proof.Safety

/-! ## Calm operations -/

/-- A lane record keeps the entry due of R46, and its state unless it enters IDLE or FAULT. -/
def LaneRec.Calm (r q : LaneRec) : Prop := q.faultDue = r.faultDue ∧ (q.state = r.state ∨ q.state = .idle ∨ q.state = .fault)

/-- The zones stand, and every lane record is calm. -/
structure State.Calm (s t : State) : Prop where
  zones : t.zones = s.zones
  lane : ∀ l, (s.lane l).Calm (t.lane l)

theorem LaneRec.Calm.refl (r : LaneRec) : r.Calm r := ⟨rfl, .inl rfl⟩

theorem LaneRec.Calm.trans {r q p : LaneRec} (h : r.Calm q) (g : q.Calm p) : r.Calm p := by
  obtain ⟨hd, hs⟩ := h
  obtain ⟨gd, gs⟩ := g
  refine ⟨gd.trans hd, ?_⟩
  rcases gs with gs | gs
  · rwa [gs]
  · exact .inr gs

theorem LaneRec.calm_enterFault (r : LaneRec) : r.Calm r.enterFault := by
  rw [LaneRec.enterFault_eq]
  split
  · exact ⟨rfl, .inr (.inr rfl)⟩
  · exact .refl r

theorem State.Calm.refl (s : State) : s.Calm s := ⟨rfl, fun _ => .refl _⟩

theorem State.Calm.trans {s t u : State} (h : s.Calm t) (g : t.Calm u) : s.Calm u :=
  ⟨g.zones.trans h.zones, fun l => (h.lane l).trans (g.lane l)⟩

/-- With the zones and the lane records as they were. -/
theorem State.Calm.of_lanes {s t : State} (hz : t.zones = s.zones) (hl : ∀ l, t.lane l = s.lane l) : s.Calm t :=
  ⟨hz, fun l => by rw [hl]; exact .refl _⟩

theorem State.calm_setLane (s : State) (l : Lane) (r : LaneRec) (h : (s.lane l).Calm r) : s.Calm (s.setLane l r) := by
  refine ⟨rfl, fun m => ?_⟩
  rw [State.lane_setLane]
  split
  · next hm => subst hm; exact h
  · exact .refl _

theorem State.calm_updLane (s : State) (l : Lane) (f : LaneRec → LaneRec) (h : ∀ r : LaneRec, r.Calm (f r)) : s.Calm (s.updLane l f) :=
  s.calm_setLane l _ (h _)

theorem State.calm_updLane_same (s : State) (l : Lane) (f : LaneRec → LaneRec) (hd : ∀ r, (f r).faultDue = r.faultDue)
    (hs : ∀ r, (f r).state = r.state) : s.Calm (s.updLane l f) := s.calm_updLane l f (fun r => ⟨hd r, .inl (hs r)⟩)

theorem State.calm_latchLane (s : State) (l : Lane) (a : LaneAlarm) (d : List Byte) : s.Calm (s.latchLane l a d) :=
  ⟨rfl, fun m => ⟨s.lane_latchLane_proj LaneRec.faultDue l m a d (by intros; rfl),
    .inl (s.lane_latchLane_proj LaneRec.state l m a d (by intros; rfl))⟩⟩

theorem State.calm_latchChip (s : State) (a : ChipAlarm) (d : List Byte) : s.Calm (s.latchChip a d) := .of_lanes rfl (fun _ => rfl)

theorem State.calm_mapWeb (s : State) (l : Lane) (f : Card → Card) : s.Calm (s.mapWeb l f) :=
  s.calm_updLane_same l _ (by intros; rfl) (by intros; rfl)

theorem State.calm_freeRecord (s : State) (c : Card) : s.Calm (s.freeRecord c) := .of_lanes (s.freeRecord_zones c) (s.lane_freeRecord c)

/-- What is calm at every turn is calm in all. -/
theorem State.calm_foldl {α : Type} (f : State → α → State) (xs : List α) (s : State) (h : ∀ (t : State), ∀ a ∈ xs, t.Calm (f t a)) :
    s.Calm (xs.foldl f s) :=
  foldl_keeps (s.Calm ·) f xs s (.refl s) (fun t a ha ht => ht.trans (h t a ha))

theorem State.calm_eachLane (f : Lane → State → State) (s : State) (h : ∀ l (t : State), t.Calm (f l t)) : s.Calm (s.eachLane f) :=
  s.calm_foldl _ _ (fun t l _ => h l t)

/-- Cards are counted in their lanes and freed (R27). -/
theorem State.calm_release (s : State) (place : Card → Lane) (count : Card → LaneRec → LaneRec) (cs : List Card)
    (hd : ∀ c r, (count c r).faultDue = r.faultDue) (hs : ∀ c r, (count c r).state = r.state) : s.Calm (s.release place count cs) :=
  s.calm_foldl _ cs (fun t c _ => (t.calm_updLane_same (place c) (count c) (hd c) (hs c)).trans (State.calm_freeRecord _ c))

theorem State.calm_withGate (s : State) (gate : List Card) : s.Calm (s.withGate gate) := .of_lanes rfl (fun _ => rfl)

theorem State.calm_removeGate (s : State) (p : Card → Bool) (count : Card → LaneRec → LaneRec)
    (hd : ∀ c r, (count c r).faultDue = r.faultDue) (hs : ∀ c r, (count c r).state = r.state) : s.Calm (s.removeGate p count) := by
  rw [State.removeGate_eq]
  exact (s.calm_withGate _).trans (State.calm_release _ _ count _ hd hs)

/-! ## Stages 1, 2, 3 and 6 -/

theorem State.calm_applyReport (s : State) (f : Frame) (l : Lane) (k : Index) (kind : Kind) : s.Calm (s.applyReport f l k kind) := by
  unfold State.applyReport
  split
  · exact .refl s
  · exact (s.calm_mapWeb l _).trans (State.calm_updLane_same _ l _ (by intros; rfl) (by intros; rfl))

theorem State.calm_confirm (l : Lane) (n : Nat) (s : State) : s.Calm (s.confirm l n) := by
  obtain ⟨gate, -, heq⟩ := s.confirm_eq l n
  rw [heq]
  exact (s.calm_withGate gate).trans
    (State.calm_release _ _ _ _ (fun c r => r.countRejected_faultDue c) (fun c r => r.countRejected_state c))

theorem State.calm_applyGateCount (s : State) (l : Lane) (k : Index) (n : Nat) : s.Calm (s.applyGateCount l k n) := by
  unfold State.applyGateCount
  have h := State.calm_confirm l (min n (s.gateOf l).length) s
  simp only
  split
  · have hb := h.trans (State.calm_updLane_same _ l (LaneRec.bump 19 (n - (s.gateOf l).length)) (by intros; rfl) (by intros; rfl))
    split
    · exact hb
    · exact hb.trans (State.calm_latchLane _ l _ _)
  · exact h

theorem State.calm_evalStationLost (s : State) (l : Lane) : s.Calm (s.evalStationLost l) := by
  unfold State.evalStationLost
  simp only
  have h : ∀ now : Bool, s.Calm (s.updLane l (fun r => { r with stationLost := now })) := fun now =>
    s.calm_updLane_same l _ (by intros; rfl) (by intros; rfl)
  split
  · refine ((h _).trans (State.calm_latchLane _ l _ _)).trans (State.calm_updLane _ l _ (fun r => ?_))
    split
    · exact r.calm_enterFault
    · exact .refl r
  · exact h _

theorem calm_stage1 (f : Frame) (k : Index) (applies : Bool) (l : Lane) (s : State) : s.Calm (stage1 f k applies l s) := by
  unfold stage1
  split
  · exact .refl s
  · simp only
    split
    · exact ((s.calm_foldl _ _ (fun t kind _ => t.calm_applyReport f l k kind)).trans
        (State.calm_applyGateCount _ l k _)).trans (State.calm_evalStationLost _ l)
    · exact s.calm_evalStationLost l

theorem calm_stage2 (k : Index) (l : Lane) (s : State) : s.Calm (stage2 k l s) := by
  unfold stage2
  split
  · exact .refl s
  · simp only
    split
    · exact .refl s
    · exact (s.calm_removeGate _ _ (by simp [LaneRec.countExpired]) (by simp [LaneRec.countExpired])).trans
        (State.calm_latchLane _ l _ _)

theorem State.calm_takeChangeover (s : State) (k : Index) (l : Lane) : s.Calm (s.takeChangeover k l) := by
  unfold State.takeChangeover
  split
  · exact .refl s
  · split
    · split
      · exact s.calm_updLane_same l _ (by intros; rfl) (by intros; rfl)
      · exact (s.calm_updLane_same l _ (by intros; rfl) (by intros; rfl)).trans (State.calm_latchLane _ l _ _)
    · exact .refl s

theorem calm_stage3 (k : Index) (l : Lane) (s : State) : s.Calm (stage3 k l s) := by
  unfold stage3
  split
  · exact s.calm_mapWeb l _
  · exact s.calm_takeChangeover k l
  · exact s.calm_takeChangeover k l
  · exact .refl s

theorem calm_stage6 (k : Index) (l : Lane) (s : State) : s.Calm (stage6 k l s) := by
  refine s.calm_foldl _ _ (fun t kind _ => ?_)
  unfold State.planStation
  split
  · exact .refl t
  · exact (t.calm_mapWeb l _).trans (State.calm_updLane_same _ l _ (by intros; rfl) (by intros; rfl))

/-! ## Stages 4, 5 and 7 -/

/-- The stacker events of a passed card change the batch fields and a counter alone (R125, R126). -/
theorem LaneRec.passEvents_eq (c : Card) (recipe : Recipe) (r : LaneRec) :
    (r.passEvents c recipe).1 = { r with
      openBatch := (r.passEvents c recipe).1.openBatch
      lastBatch := (r.passEvents c recipe).1.lastBatch
      counters := (r.passEvents c recipe).1.counters } := by
  unfold LaneRec.passEvents
  cases hb : r.openBatch with
  | none => simp only [hb]; split <;> rfl
  | some b =>
    by_cases hs : b.sku = c.sku
    · simp only [if_pos hs, hb]; split <;> rfl
    · simp only [if_neg hs, LaneRec.bump_openBatch]; split <;> rfl

theorem LaneRec.calm_passEvents (c : Card) (recipe : Recipe) (r : LaneRec) : r.Calm (r.passEvents c recipe).1 := by
  rw [LaneRec.passEvents_eq]
  exact ⟨rfl, .inl rfl⟩

theorem State.calm_passAtPunch (s : State) (l : Lane) (c : Card) : s.Calm (s.passAtPunch l c).1 := by
  unfold State.passAtPunch
  refine State.Calm.trans (s.calm_setLane l _ ?_) (State.calm_freeRecord _ c)
  exact (s.lane l).calm_passEvents c (s.recipeOf c)

theorem State.calm_rejectAtPunch (s : State) (k : Index) (l : Lane) (c : Card) : s.Calm (s.rejectAtPunch k l c) :=
  (s.calm_updLane_same l _ (by intros; rfl) (by intros; rfl)).trans (State.calm_withGate _ _)

theorem State.calm_punch (s : State) (k : Index) (l : Lane) : s.Calm (s.punch k l).1 := by
  unfold State.punch
  split
  · dsimp only
    exact s.calm_updLane_same l _ (by intros; rfl) (by intros; rfl)
  · have hs : s.Calm (s.updLane l (fun r => { r with blindAnswer := false })) :=
      s.calm_updLane_same l _ (by intros; rfl) (by intros; rfl)
    simp only
    split
    · exact hs
    · split
      · split
        · exact hs.trans (State.calm_passAtPunch _ l _)
        · exact hs.trans (State.calm_rejectAtPunch _ k l _)
      · exact hs

theorem calm_stage4 (k : Index) (l : Lane) (s : State) : s.Calm (stage4 k l s) := by
  refine (s.calm_punch k l).trans ?_
  unfold stage4
  exact State.calm_updLane_same _ l _ (by intros; rfl) (by intros; rfl)

theorem State.calm_createCard (s : State) (l : Lane) (k : Index) : s.Calm (s.createCard l k) := by
  unfold State.createCard
  split
  · exact .refl s
  · next n rest _ =>
    have htaken : s.Calm { s with free := rest, serial := s.serial + 1 } := .of_lanes rfl (fun _ => rfl)
    exact (htaken.trans (State.calm_updLane_same _ l _ (by intros; rfl) (by intros; rfl))).trans
      (.of_lanes (State.updRefs_zones ..) (fun m => State.lane_updRefs ..))

theorem calm_stage5 (k : Index) (l : Lane) (s : State) : s.Calm (stage5 k l s) := by
  unfold stage5
  split
  · exact s.calm_createCard l k
  · exact .refl s

/-- The run-end close changes the open batch and a counter alone (R127). -/
theorem LaneRec.runEndClose_eq (mode : Option CloseMode) (full : Bool) (r : LaneRec) :
    (r.runEndClose mode full).1 =
      { r with openBatch := (r.runEndClose mode full).1.openBatch, counters := (r.runEndClose mode full).1.counters } := by
  unfold LaneRec.runEndClose
  split
  · split <;> rfl
  · split <;> rfl

/-- A lane that enters IDLE with its run-end close (R43, R48). -/
theorem LaneRec.calm_close (mode : Option CloseMode) (full : Bool) (r : LaneRec) : r.Calm (r.enterIdle.runEndClose mode full).1 := by
  rw [LaneRec.runEndClose_eq]
  exact ⟨rfl, .inr (.inl rfl)⟩

theorem calm_stage7 (l : Lane) (s : State) : s.Calm (stage7 l s) := by
  unfold stage7
  simp only
  split
  · exact s.calm_setLane l _ ((s.lane l).calm_close _ _)
  · exact .refl s

theorem State.calm_clearLane (s : State) (l : Lane) : s.Calm (s.clearLane l) := s.calm_setLane l _ ((s.lane l).calm_close _ _)

/-! ## The other parts of a cycle frame -/

theorem calm_gapHandling (last k : Index) (order : List Lane) (s : State) : s.Calm (gapHandling last k order s) := by
  refine gapHandling_keeps (s.Calm ·) last k order s (s.calm_latchChip _ _) (fun n l t ht => ht.trans ?_)
  unfold gapPart
  split
  · exact t.calm_removeGate _ _ (by simp [LaneRec.countUnverified]) (by simp [LaneRec.countUnverified])
  · rw [State.retireWeb_eq]
    exact (t.calm_updLane_same l _ (by intros; rfl) (by intros; rfl)).trans (State.calm_release _ _ _ _ (by simp) (by simp))
  · exact t.calm_mapWeb l _
  · exact .refl t

theorem State.calm_loseWeb (s : State) (l : Lane) : s.Calm (s.loseWeb l) := by
  rw [State.loseWeb_eq]
  exact (s.calm_updLane_same l _ (by intros; rfl) (by intros; rfl)).trans
    (State.calm_release _ _ _ _ (by intros; rfl) (by intros; rfl))

theorem State.calm_loseLane (s : State) (last k : Index) (l : Lane) : s.Calm (s.loseLane last k l) := by
  unfold State.loseLane
  split
  · exact .refl s
  · have hfault : ∀ r : LaneRec, r.Calm { r.enterFault with blind := s.map.e } := fun r => r.calm_enterFault
    exact (s.calm_updLane l _ hfault).trans (State.calm_latchLane _ l _ _)

theorem calm_lostTrack (last k : Index) (s : State) : s.Calm (lostTrack last k s) :=
  ((s.calm_removeGate _ _ (by simp [LaneRec.countUnverified]) (by simp [LaneRec.countUnverified])).trans
    (State.calm_eachLane _ _ (fun l t => t.calm_loseWeb l))).trans (State.calm_eachLane _ _ (fun l t => t.calm_loseLane last k l))

theorem calm_frameAccepted (k : Index) (s : State) : s.Calm (frameAccepted k s) := by
  have hlast : s.Calm { s with lastIndex := some k } := .of_lanes rfl (fun _ => rfl)
  have hswitch : ∀ t : State, t.Calm (t.decideSwitch k) := fun t => by
    unfold State.decideSwitch
    split
    · exact .refl t
    · split
      · split <;> exact .of_lanes rfl (fun _ => rfl)
      · exact .refl t
  have hplans : ∀ t : State, t.Calm t.clearPlans := fun t => t.calm_eachLane _ (fun l u =>
    u.calm_updLane_same l (fun r => { r with plan := LanePlan.none }) (by intros; rfl) (by intros; rfl))
  exact (hlast.trans (hswitch _)).trans (hplans _)

theorem calm_beginCycle (f : Frame) (cls : FrameClass) (gapOrder : List Lane) (s : State) : s.Calm (beginCycle f cls gapOrder s) := by
  have htaken : s.Calm (frameTaken cls s) := .of_lanes rfl (fun _ => rfl)
  have hcontinuity : ∀ t : State, t.Calm (continuity cls (frameIndex f) gapOrder t) := fun t => by
    unfold continuity
    split
    · exact t.calm_latchChip _ _
    · exact calm_gapHandling _ _ gapOrder t
    · exact calm_lostTrack _ _ t
    · exact .refl t
  rw [beginCycle_eq]
  split
  · exact htaken.trans (hcontinuity _)
  · exact (htaken.trans (hcontinuity _)).trans (calm_frameAccepted _ _)

theorem calm_writeCommand (isRepeat : Bool) (i : Nat) (kind : Kind) (l : Lane) (w : Work) :
    w.state.Calm (writeCommand isRepeat i kind l w).state := by
  unfold writeCommand
  split
  · exact .refl _
  · split
    · simp only
      split
      · exact .refl _
      · exact State.calm_latchChip _ _ _
    · exact .of_lanes rfl (fun _ => rfl)

theorem calm_compareCommand (isRepeat : Bool) (i : Nat) (kind : Kind) (l : Lane) (w : Work) :
    w.state.Calm (compareCommand isRepeat i kind l w).state := by
  have hring : ∀ r, w.state.Calm { w.state with ring := r } := fun r => .of_lanes rfl (fun _ => rfl)
  unfold compareCommand
  simp only
  split
  · split
    · exact .refl _
    · exact hring _
    · exact (hring _).trans (State.calm_latchLane _ _ _ _)
  · split
    · exact hring _
    · exact .refl _

theorem calm_commandSlot (isRepeat : Bool) (w : Work) (entry : SlotUse × Nat) : w.state.Calm (commandSlot isRepeat w entry).state := by
  unfold commandSlot
  split
  · split
    · exact calm_writeCommand _ _ _ _ w
    · exact calm_compareCommand _ _ _ _ w
    · exact .refl _
  all_goals exact .refl _

theorem calm_finishCycle (isRepeat : Bool) (f : Frame) (s : State) : s.Calm (finishCycle isRepeat f s).state := by
  refine finishCycle_keeps (fun w => s.Calm w.state) isRepeat f s (.refl s) (fun w e h => h.trans (calm_commandSlot _ w e))
    (fun w h => h.trans ?_) (fun _ h => h)
  unfold writeStatus
  split
  · exact .refl _
  · split <;> exact .of_lanes rfl (fun _ => rfl)

end Sys2Proof.Machine
end

section
/-! PROOFS. Between frames every zone is sound and no faulty zone stands under a lane in RUN or DRAIN: what the pitch steps, the requests and
the commands keep of it (R41, R46, R107 to R112, R115). -/

namespace Sys2Proof.Machine

open Sys2Proof.Safety

/-! ## The frame of an operation on lane records -/

/-- The lane records and the stop reason are all that an operation changes. -/
def State.LanesOnly (s t : State) : Prop := t = { s with lanes := t.lanes, stopReason := t.stopReason }

theorem State.LanesOnly.trans {s t u : State} (h : s.LanesOnly t) (g : t.LanesOnly u) : s.LanesOnly u :=
  Eq.trans g (congrArg (fun v : State => { v with lanes := u.lanes, stopReason := u.stopReason }) h)

theorem State.LanesOnly.frame {s t : State} (h : s.LanesOnly t) : { t with lanes := s.lanes, stopReason := s.stopReason } = s :=
  congrArg (fun v : State => { v with lanes := s.lanes, stopReason := s.stopReason }) h

theorem State.LanesOnly.zones {s t : State} (h : s.LanesOnly t) : t.zones = s.zones := by rw [State.LanesOnly] at h; rw [h]
theorem State.LanesOnly.buffer {s t : State} (h : s.LanesOnly t) : t.buffer = s.buffer := by rw [State.LanesOnly] at h; rw [h]

theorem State.lanesOnly_updLane (s : State) (l : Lane) (f : LaneRec → LaneRec) : s.LanesOnly (s.updLane l f) := rfl

theorem State.lanesOnly_latchLane (s : State) (l : Lane) (a : LaneAlarm) (d : List Byte) : s.LanesOnly (s.latchLane l a d) := rfl

/-! ## Zones held -/

/-- Every zone is sound; an entry to FAULT is due only in a lane whose pitch step is in progress; and a lane that is not IDLE, with its zone
in FAULT, is in FAULT or has the entry due (R46, R115). -/
structure ZonesHeld (inStep : Lane → Bool) (s : State) : Prop where
  sound : ZonesSound s
  due : ∀ l, (s.lane l).faultDue = true → inStep l = true
  taken : ∀ l, s.zoneFaultActive l = true → (s.lane l).state = .fault ∨ (s.lane l).faultDue = true

/-- Between frames no pitch step is in progress. -/
abbrev noStep : Lane → Bool := fun _ => false

theorem zonesHeld_noStep_iff (s : State) : ZonesHeld noStep s ↔ ZonesSound s ∧ ZoneFaultSound s := by
  constructor
  · rintro ⟨hz, hd, ht⟩
    have hfree : ∀ l, (s.lane l).faultDue = false := fun l => by simpa using mt (hd l)
    exact ⟨hz, fun l => ⟨hfree l, fun h => (ht l h).resolve_right (by simp [hfree l])⟩⟩
  · rintro ⟨hz, hf⟩
    exact ⟨hz, fun l h => by simp [(hf l).1] at h, fun l h => .inl ((hf l).2 h)⟩

theorem zoneFaultActive_iff (s : State) (l : Lane) :
    s.zoneFaultActive l = true ↔ (s.zone l).state = .fault ∧ (s.lane l).state ≠ .idle := by
  simp [State.zoneFaultActive]

/-- More pitch steps may be in progress. -/
theorem ZonesHeld.mono {inStep inStep' : Lane → Bool} {s : State} (hs : ZonesHeld inStep s)
    (h : ∀ l, inStep l = true → inStep' l = true) : ZonesHeld inStep' s :=
  ⟨hs.sound, fun l hl => h l (hs.due l hl), hs.taken⟩

/-- A zone in FAULT keeps its lane taken, whatever calm operation acts on the lane. -/
theorem ZonesHeld.calm {inStep : Lane → Bool} {s t : State} (hs : ZonesHeld inStep s) (h : s.Calm t) : ZonesHeld inStep t := by
  have hzone : ∀ l, t.zone l = s.zone l := fun l => by simp only [State.zone, h.zones]
  refine ⟨fun l => by rw [hzone]; exact hs.sound l, fun l hl => hs.due l (by rwa [← (h.lane l).1]), fun l hl => ?_⟩
  obtain ⟨hf, hi⟩ := (zoneFaultActive_iff t l).1 hl
  obtain ⟨hd, hst | hst | hst⟩ := h.lane l
  · rw [hd, hst]
    exact hs.taken l ((zoneFaultActive_iff s l).2 ⟨by rwa [← hzone], by rwa [← hst]⟩)
  · exact absurd hst hi
  · exact .inl hst

/-- The record of a lane is replaced; the zones and the other lanes stand. -/
theorem ZonesHeld.replace {inStep inStep' : Lane → Bool} {s t : State} (l : Lane) (hs : ZonesHeld inStep s) (hz : t.zones = s.zones)
    (hlanes : ∀ m, l ≠ m → t.lane m = s.lane m) (hin : ∀ m, l ≠ m → inStep m = true → inStep' m = true)
    (hd : (t.lane l).faultDue = true → inStep' l = true)
    (ht : (s.zone l).state = .fault → (t.lane l).state ≠ .idle → (t.lane l).state = .fault ∨ (t.lane l).faultDue = true) :
    ZonesHeld inStep' t := by
  have hzone : ∀ m, t.zone m = s.zone m := fun m => by simp only [State.zone, hz]
  refine ⟨fun m => by rw [hzone]; exact hs.sound m, fun m => ?_, fun m hm => ?_⟩
  · by_cases hlm : l = m
    · subst hlm; exact hd
    · rw [hlanes m hlm]; exact fun h => hin m hlm (hs.due m h)
  · rw [zoneFaultActive_iff, hzone] at hm
    by_cases hlm : l = m
    · subst hlm; exact ht hm.1 hm.2
    · rw [hlanes m hlm] at hm ⊢; exact hs.taken m ((zoneFaultActive_iff s m).2 hm)

theorem ZonesHeld.update {inStep inStep' : Lane → Bool} {s : State} {l : Lane} (hs : ZonesHeld inStep s) (f : LaneRec → LaneRec)
    (hin : ∀ m, l ≠ m → inStep m = true → inStep' m = true) (hd : (f (s.lane l)).faultDue = true → inStep' l = true)
    (ht : (s.zone l).state = .fault → (f (s.lane l)).state ≠ .idle →
      (f (s.lane l)).state = .fault ∨ (f (s.lane l)).faultDue = true) : ZonesHeld inStep' (s.updLane l f) := by
  have hlane := s.lane_updLane_self l f
  exact hs.replace l rfl (fun m hm => s.lane_updLane_ne f hm) hin (by rwa [hlane]) (by rwa [hlane])

/-- A lane that enters FAULT where it is in RUN or DRAIN is in FAULT unless it is IDLE. -/
theorem LaneRec.enterFault_state (r : LaneRec) (h : r.state ≠ .idle) : r.enterFault.state = .fault := by
  unfold LaneRec.enterFault
  split
  · rfl
  · rfl
  · next hs => exact hs
  · next hs => exact absurd hs h

theorem LaneRec.enterFault_ne_idle {r : LaneRec} (h : r.enterFault.state ≠ .idle) : r.state ≠ .idle := fun hi => by
  rw [LaneRec.enterFault_eq, hi] at h
  exact h hi

/-! ## The end of a conversion -/

/-- The record of a lane whose zone entered FAULT, with its pitch step in progress or not (R45, R46, R115). -/
def LaneRec.zoneFaulted (z : Zone) (inStep : Bool) (r : LaneRec) : LaneRec :=
  { (if inStep then { r with faultDue := r.state = .run || r.state = .drain } else r.enterFault) with
    alarms := latchedLane r .zoneFault (nat16 z.z ++ [byteOf z.streak]) }

theorem LaneRec.zoneFaulted_inStep (z : Zone) (r : LaneRec) : r.zoneFaulted z true = { r with
    faultDue := r.state = .run || r.state = .drain
    alarms := latchedLane r .zoneFault (nat16 z.z ++ [byteOf z.streak]) } := rfl

theorem LaneRec.zoneFaulted_between (z : Zone) (r : LaneRec) : r.zoneFaulted z false =
    { r.enterFault with alarms := latchedLane r .zoneFault (nat16 z.z ++ [byteOf z.streak]) } := rfl

theorem State.zoneFaultBegins_eq (s : State) (l : Lane) (inStep : Bool) :
    s.zoneFaultBegins l inStep = (s.latchLane l .zoneFault (nat16 (s.zone l).z ++ [byteOf (s.zone l).streak])).updLane l
      (fun r => if inStep then { r with faultDue := r.state = .run || r.state = .drain } else r.enterFault) := by
  unfold State.zoneFaultBegins
  cases inStep <;> rfl

/-- ZONE_FAULT changes the record of its lane alone. -/
theorem State.lane_zoneFaultBegins (s : State) (l m : Lane) (inStep : Bool) :
    (s.zoneFaultBegins l inStep).lane m = if l = m then (s.lane m).zoneFaulted (s.zone l) inStep else s.lane m := by
  rw [State.zoneFaultBegins_eq]
  by_cases h : l = m
  · subst h
    rw [if_pos rfl, State.lane_updLane_self, State.lane_latchLane_self]
    cases inStep with
    | true => rfl
    | false =>
      rw [LaneRec.zoneFaulted_between, if_neg (by decide), LaneRec.enterFault_eq, LaneRec.enterFault_eq]
      split <;> rfl
  · rw [if_neg h, State.lane_updLane_ne _ _ h, State.lane_latchLane_ne _ _ _ h]

theorem State.lanesOnly_zoneFaultBegins (s : State) (l : Lane) (inStep : Bool) : s.LanesOnly (s.zoneFaultBegins l inStep) := by
  rw [State.zoneFaultBegins_eq]
  exact (s.lanesOnly_latchLane l _ _).trans (State.lanesOnly_updLane _ l _)

theorem State.zone_zoneFaultBegins (s : State) (l m : Lane) (inStep : Bool) : (s.zoneFaultBegins l inStep).zone m = s.zone m := by
  rw [State.zoneFaultBegins_eq]
  rfl

/-- The zone of the conversion in flight once it has ended with this code (R107, R108). -/
def State.converted (s : State) (raw : RawCode) : Zone := (s.zone s.conv.zone).convert raw s.conv.offset s.conv.limit

/-- The conversion in flight takes its zone into FAULT under a lane that is not IDLE, so that ZONE_FAULT becomes active (R115). -/
abbrev State.Faults (s : State) (raw : RawCode) : Prop :=
  (s.zone s.conv.zone).state ≠ .fault ∧ (s.converted raw).state = .fault ∧ (s.lane s.conv.zone).state ≠ .idle

theorem State.convert_eq (s : State) (raw : RawCode) (inStep : Lane → Bool) :
    s.convert raw inStep =
      (if s.Faults raw then (s.setZone s.conv.zone (s.converted raw)).zoneFaultBegins s.conv.zone (inStep s.conv.zone)
        else s.setZone s.conv.zone (s.converted raw)).beginConversion (nextZone s.conv.zone) := by
  have h : ((s.zone s.conv.zone).state ≠ .fault ∧
      (s.setZone s.conv.zone (s.converted raw)).zoneFaultActive s.conv.zone = true) = s.Faults raw := by
    rw [zoneFaultActive_iff, State.zone_setZone_self, State.lane_setZone]
  unfold State.convert
  simp only [← h]
  rfl

theorem State.convert_of_faults {s : State} {raw : RawCode} (h : s.Faults raw) (inStep : Lane → Bool) :
    s.convert raw inStep = ((s.setZone s.conv.zone (s.converted raw)).zoneFaultBegins s.conv.zone
      (inStep s.conv.zone)).beginConversion (nextZone s.conv.zone) := by rw [State.convert_eq, if_pos h]

theorem State.convert_of_not {s : State} {raw : RawCode} (h : ¬ s.Faults raw) (inStep : Lane → Bool) :
    s.convert raw inStep = (s.setZone s.conv.zone (s.converted raw)).beginConversion (nextZone s.conv.zone) := by
  rw [State.convert_eq, if_neg h]

theorem State.zone_convert_self (s : State) (raw : RawCode) (inStep : Lane → Bool) :
    (s.convert raw inStep).zone s.conv.zone = s.converted raw := by
  by_cases h : s.Faults raw
  · rw [State.convert_of_faults h]
    exact (State.zone_zoneFaultBegins _ _ _ _).trans (s.zone_setZone_self _ _)
  · rw [State.convert_of_not h]
    exact s.zone_setZone_self _ _

theorem State.zone_convert_ne (s : State) (raw : RawCode) (inStep : Lane → Bool) {m : Lane} (hm : s.conv.zone ≠ m) :
    (s.convert raw inStep).zone m = s.zone m := by
  by_cases h : s.Faults raw
  · rw [State.convert_of_faults h]
    exact (State.zone_zoneFaultBegins _ _ _ _).trans (s.zone_setZone_ne _ hm)
  · rw [State.convert_of_not h]
    exact s.zone_setZone_ne _ hm

/-- A conversion changes a lane record only where ZONE_FAULT becomes active. -/
theorem State.lane_convert (s : State) (raw : RawCode) (inStep : Lane → Bool) (m : Lane) :
    (s.convert raw inStep).lane m =
      if s.Faults raw ∧ s.conv.zone = m then (s.lane m).zoneFaulted (s.converted raw) (inStep m) else s.lane m := by
  by_cases h : s.Faults raw
  · rw [State.convert_of_faults h]
    refine (State.lane_zoneFaultBegins _ _ _ _).trans ?_
    rw [State.zone_setZone_self, State.lane_setZone]
    by_cases hm : s.conv.zone = m
    · rw [if_pos hm, if_pos ⟨h, hm⟩, hm]
    · rw [if_neg hm, if_neg (fun hc => hm hc.2)]
  · rw [State.convert_of_not h, if_neg (fun hc => h hc.1)]
    rfl

/-- The end of a conversion keeps the zones held (R46, R107 to R111, R115). -/
theorem ZonesHeld.convert {inStep : Lane → Bool} {s : State} (hs : ZonesHeld inStep s) (raw : RawCode) :
    ZonesHeld inStep (s.convert raw inStep) := by
  have hdue : ∀ (z : Zone) (r : LaneRec) (b : Bool), (r.faultDue = true → b = true) →
      (r.zoneFaulted z b).faultDue = true → b = true := fun z r b hr => by
    cases b with
    | true => exact fun _ => rfl
    | false => rw [LaneRec.zoneFaulted_between]; simpa using hr
  have htaken : ∀ (z : Zone) (r : LaneRec) (b : Bool), r.state ≠ .idle →
      (r.zoneFaulted z b).state = .fault ∨ (r.zoneFaulted z b).faultDue = true := fun z r b hr => by
    cases b with
    | true => rw [LaneRec.zoneFaulted_inStep]; cases hst : r.state <;> simp_all
    | false => exact .inl (r.enterFault_state hr)
  refine ⟨fun m => ?_, fun m => ?_, fun m hm => ?_⟩
  · by_cases hm : s.conv.zone = m
    · subst hm
      rw [State.zone_convert_self]
      exact zoneSound_convert (hs.sound _) raw _ _
    · rw [State.zone_convert_ne _ _ _ hm]
      exact hs.sound m
  · rw [State.lane_convert]
    split
    · exact hdue _ _ _ (hs.due m)
    · exact hs.due m
  · obtain ⟨hf, hi⟩ := (zoneFaultActive_iff _ m).1 hm
    rw [State.lane_convert] at hi ⊢
    split at hi
    · next h =>
      rw [if_pos h]
      obtain ⟨⟨-, -, hawake⟩, rfl⟩ := h
      exact htaken _ _ _ hawake
    · next h =>
      rw [if_neg h]
      refine hs.taken m ((zoneFaultActive_iff s m).2 ⟨?_, hi⟩)
      by_cases hm : s.conv.zone = m
      · subst hm
        rw [State.zone_convert_self] at hf
        exact by_contra fun hbefore => h ⟨⟨hbefore, hf, hi⟩, rfl⟩
      · rwa [State.zone_convert_ne _ _ _ hm] at hf

end Sys2Proof.Machine
end

section
/-! PROOFS. The pitch steps, the requests and the commands keep the zones held (R41, R46, R107 to R112, R115). -/

namespace Sys2Proof.Machine

open Sys2Proof.Safety

/-! ## The pitch steps -/

/-- A lane record once the entry due of R46 has been taken. -/
def LaneRec.faultTaken (r : LaneRec) : LaneRec := if r.faultDue then { r.enterFault with faultDue := false } else r

theorem State.faultAfterStep_eq (s : State) (l : Lane) : s.faultAfterStep l = s.updLane l LaneRec.faultTaken := rfl

theorem LaneRec.faultTaken_faultDue (r : LaneRec) : r.faultTaken.faultDue = false := by
  unfold LaneRec.faultTaken
  split
  · rfl
  · next h => simpa using h

/-- The entry due is taken, and none is due after it (R46). -/
theorem ZonesHeld.faultAfterStep {inStep inStep' : Lane → Bool} {s : State} (hs : ZonesHeld inStep s) (l : Lane)
    (hin : ∀ m, l ≠ m → inStep m = true → inStep' m = true) : ZonesHeld inStep' (s.faultAfterStep l) := by
  rw [State.faultAfterStep_eq]
  refine hs.update _ hin (fun h => by simp [LaneRec.faultTaken_faultDue] at h) (fun hz hi => .inl ?_)
  unfold LaneRec.faultTaken at hi ⊢
  split
  · next hd =>
    rw [if_pos hd] at hi
    exact (s.lane l).enterFault_state (LaneRec.enterFault_ne_idle hi)
  · next hd =>
    rw [if_neg hd] at hi
    exact (hs.taken l ((zoneFaultActive_iff s l).2 ⟨hz, hi⟩)).resolve_right hd

/-- Every stage but the last is calm. -/
theorem calm_runStage (x : StepCtx) {n : Nat} (hn : n ≠ 7) (l : Lane) (s : State) : s.Calm (runStage x n l s) := by
  unfold runStage
  split
  · exact calm_stage1 _ _ _ l s
  · exact calm_stage2 _ l s
  · exact calm_stage3 _ l s
  · exact calm_stage4 _ l s
  · exact calm_stage5 _ l s
  · exact calm_stage6 _ l s
  · exact absurd rfl hn
  · exact .refl s

theorem Steps.inProgress_iff (x : StepCtx) (p : Steps) (l : Lane) : p.inProgress x l = true ↔ x.firstStage < p.next[l] ∧ p.next[l] ≤ 7 := by
  simp [Steps.inProgress]

/-- A lane's next stage leaves the steps of the others as they are, and its own in progress unless it is the last. -/
theorem Steps.inProgress_advance {x : StepCtx} {p : Steps} {l m : Lane} (h : l ≠ m ∨ p.next[l] ≠ 7) (hp : p.inProgress x m = true) :
    (p.advance x l).inProgress x m = true := by
  rw [Steps.inProgress_iff] at hp ⊢
  rw [Steps.next_advance]
  split
  · next hm =>
    obtain ⟨rfl, -⟩ := hm
    have h7 : p.next[l] ≠ 7 := h.resolve_left (fun hne => hne rfl)
    omega
  · exact hp

/-- What holds while the pitch steps of a frame run. -/
def Steps.Held (x : StepCtx) (p : Steps) : Prop := ZonesHeld (p.inProgress x) p.state

theorem Steps.Held.advance {x : StepCtx} {p : Steps} (h : p.Held x) (l : Lane) : (p.advance x l).Held x := by
  by_cases h7 : p.next[l] ≤ 7
  · have hstate : (p.advance x l).state = runStage x p.next[l] l p.state := by rw [Steps.advance_of_le x l p h7]
    unfold Steps.Held
    rw [hstate]
    by_cases hlast : p.next[l] = 7
    · rw [hlast]
      exact (ZonesHeld.calm h (calm_stage7 l p.state)).faultAfterStep l (fun m hm => Steps.inProgress_advance (.inl hm))
    · exact (ZonesHeld.calm h (calm_runStage x hlast l p.state)).mono (fun m => Steps.inProgress_advance (.inr hlast))
  · rwa [Steps.advance_of_lt x l p (by omega)]

theorem Steps.Held.tick {x : StepCtx} {p : Steps} (h : p.Held x) (t : Tick) : (p.tick x t).Held x := by
  cases t with
  | stage l => exact h.advance l
  | conversion raw => exact ZonesHeld.convert h raw

theorem Steps.Held.finish {x : StepCtx} {p : Steps} (h : p.Held x) (l : Lane) : (p.finish x l).Held x := by
  unfold Steps.finish
  generalize 7 = n
  induction n with
  | zero => exact h
  | succ n ih => rw [Function.iterate_succ_apply']; exact ih.advance l

/-- The pitch steps of a frame leave no entry due (R46). -/
theorem ZonesHeld.runPitchSteps {s : State} (hs : ZonesHeld noStep s) (x : StepCtx) (hx : 1 ≤ x.firstStage) (ticks : List Tick) :
    ZonesHeld noStep (runPitchSteps x ticks s) := by
  have hstart : (Steps.start x s).Held x := hs.mono (fun l h => absurd h Bool.false_ne_true)
  have hticks := foldl_keeps (Steps.Held x) (Steps.tick x) ticks _ hstart (fun p t _ hp => hp.tick t)
  have hnext : ∀ l : Lane, 1 ≤ (ticks.foldl (Steps.tick x) (Steps.start x s)).next[l] := fun l =>
    foldl_keeps (fun p : Steps => 1 ≤ p.next[l]) _ _ _ (by simpa [Steps.start] using hx) (fun p t _ hp => hp.trans (p.next_tick x t l))
  have hend := foldl_keeps (Steps.Held x) (fun p l => p.finish x l) (List.finRange 6) _ hticks (fun p l _ hp => hp.finish l)
  refine ZonesHeld.mono hend (fun l hl => ?_)
  have h8 := (Steps.next_finish_all x (List.finRange 6) _ hnext l).2 (List.mem_finRange l)
  have h7 := ((Steps.inProgress_iff _ _ l).1 hl).2
  omega

theorem one_le_firstStage (f : Frame) (cls : FrameClass) : 1 ≤ (stepCtx f cls).firstStage := by
  cases cls <;> simp [stepCtx]

theorem ZonesHeld.processCycle {s : State} (hs : ZonesHeld noStep s) (f : Frame) (gapOrder : List Lane) (ticks : List Tick) :
    ZonesHeld noStep (processCycle f gapOrder ticks s).state := by
  rw [processCycle_eq]
  exact ((hs.calm (calm_beginCycle f _ gapOrder s)).runPitchSteps _ (one_le_firstStage f _) ticks).calm (calm_finishCycle _ f _)

/-! ## Requests -/

theorem State.calm_settleStop (s : State) : s.Calm s.settleStop := by
  unfold State.settleStop
  split
  · split <;> exact .of_lanes rfl (fun _ => rfl)
  · exact .of_lanes rfl (fun _ => rfl)

theorem State.calm_clearLatches (s : State) (sc : Scope) : s.Calm (s.clearLatches sc) := by
  have hlane : ∀ (t : State) l, t.Calm (t.clearLaneLatches l) := fun t l => t.calm_updLane_same l _ (by intros; rfl) (by intros; rfl)
  cases sc with
  | lane l => exact hlane s l
  | chip => exact .of_lanes rfl (fun _ => rfl)
  | all => exact (s.calm_eachLane _ (fun l t => hlane t l)).trans (.of_lanes rfl (fun _ => rfl))

theorem State.calm_maskScope (s : State) (summary stop : Byte) (sc : Scope) : s.Calm (s.maskScope summary stop sc) := by
  have hlane : ∀ (t : State) l, t.Calm (t.maskLane summary stop l) := fun t l => t.calm_updLane_same l _ (by intros; rfl) (by intros; rfl)
  cases sc with
  | lane l => exact hlane s l
  | chip => exact .of_lanes rfl (fun _ => rfl)
  | all => exact s.calm_eachLane _ (fun l t => hlane t l)

/-- A lane in DRAIN or RUN moves between the two: its zone is not in FAULT (R41, R42, R44). -/
theorem ZonesHeld.working {s : State} (hs : ZonesHeld noStep s) {l : Lane} (hw : Working (s.lane l)) (f : LaneRec → LaneRec)
    (hd : ∀ r, (f r).faultDue = r.faultDue) : ZonesHeld noStep (s.updLane l f) := by
  refine hs.update f (fun _ _ h => h) (fun h => hs.due l (by rwa [← hd])) (fun hz _ => ?_)
  rcases hs.taken l ((zoneFaultActive_iff s l).2 ⟨hz, (ne_of_working hw).1⟩) with h | h
  · exact absurd h (ne_of_working hw).2
  · exact .inr (by rw [hd]; exact h)

/-- LANE RUN with the lane's zone in FAULT (R41). -/
theorem State.startLane_of_fault {s : State} {l : Lane} (h : (s.zone l).state = .fault) (e : EntryNo) :
    s.startLane l e = (s.updLane l (fun r => { r with state := .run, assigned := e })).zoneFaultBegins l false := if_pos h

/-- LANE RUN with the lane's zone in any other state (R41). -/
theorem State.startLane_of_ne_fault {s : State} {l : Lane} (h : (s.zone l).state ≠ .fault) (e : EntryNo) :
    s.startLane l e = s.updLane l (fun r => { r with state := .run, assigned := e }) := if_neg h

theorem State.lane_startLane_self {s : State} {l : Lane} (h : (s.zone l).state = .fault) (e : EntryNo) :
    (s.startLane l e).lane l = { s.lane l with
      state := .fault
      assigned := e
      changeover := none
      alarms := latchedLane (s.lane l) .zoneFault (nat16 (s.zone l).z ++ [byteOf (s.zone l).streak]) } := by
  rw [State.startLane_of_fault h, State.lane_zoneFaultBegins, if_pos rfl, State.lane_updLane_self]
  rfl

theorem State.lane_startLane_ne (s : State) {l m : Lane} (e : EntryNo) (hm : l ≠ m) : (s.startLane l e).lane m = s.lane m := by
  by_cases h : (s.zone l).state = .fault
  · rw [State.startLane_of_fault h, State.lane_zoneFaultBegins, if_neg hm, State.lane_updLane_ne _ _ hm]
  · rw [State.startLane_of_ne_fault h, State.lane_updLane_ne _ _ hm]

theorem State.lanesOnly_startLane (s : State) (l : Lane) (e : EntryNo) : s.LanesOnly (s.startLane l e) := by
  by_cases h : (s.zone l).state = .fault
  · rw [State.startLane_of_fault h]
    exact (s.lanesOnly_updLane l _).trans (State.lanesOnly_zoneFaultBegins _ l false)
  · rw [State.startLane_of_ne_fault h]
    exact s.lanesOnly_updLane l _

/-- A lane that leaves IDLE enters FAULT at once where its zone is in FAULT (R41). -/
theorem ZonesHeld.startLane {s : State} (hs : ZonesHeld noStep s) (l : Lane) (e : EntryNo) : ZonesHeld noStep (s.startLane l e) := by
  by_cases h : (s.zone l).state = .fault
  · have hlane := State.lane_startLane_self h e
    exact hs.replace l (s.lanesOnly_startLane l e).zones (fun m hm => s.lane_startLane_ne e hm) (fun _ _ h => h)
      (by rw [hlane]; exact hs.due l) (fun _ _ => .inl (by rw [hlane]))
  · rw [State.startLane_of_ne_fault h]
    exact hs.update _ (fun _ _ h => h) (hs.due l) (fun hz => absurd hz h)

/-- A zone's offset and hold limit are replaced (R112). -/
theorem ZonesHeld.setZone {s : State} (hs : ZonesHeld noStep s) (l : Lane) {offset : Int} {limit : Nat}
    (ho : -7 ≤ offset ∧ offset ≤ 7) (hl : 1 ≤ limit ∧ limit ≤ 255) :
    ZonesHeld noStep (s.setZone l { s.zone l with offset := offset, limit := limit }) := by
  have hzone : ∀ m, ((s.setZone l { s.zone l with offset := offset, limit := limit }).zone m).state = (s.zone m).state := fun m => by
    by_cases hm : l = m
    · subst hm; rw [State.zone_setZone_self]
    · rw [State.zone_setZone_ne _ _ hm]
  refine ⟨fun m => ?_, hs.due, fun m hm => hs.taken m ?_⟩
  · by_cases hm : l = m
    · subst hm
      rw [State.zone_setZone_self]
      obtain ⟨-, -, -, -, hitems⟩ := hs.sound l
      exact ⟨ho.1, ho.2, hl.1, hl.2, hitems⟩
    · rw [State.zone_setZone_ne _ _ hm]
      exact hs.sound m
  · rw [zoneFaultActive_iff, hzone] at hm
    exact (zoneFaultActive_iff s m).2 hm

theorem State.calm_setEntry (s : State) (b : Bank) (n : EntryNo) (e : Entry) : s.Calm (s.setEntry b n e) :=
  .of_lanes (s.setEntry_zones b n e) (s.lane_setEntry b n e)

/-- RESTART leaves every lane in IDLE and the zones as they are (R57, R170). -/
theorem ZonesHeld.restart {s : State} (hs : ZonesHeld noStep s) : ZonesHeld noStep s.restart := by
  have hlane : ∀ l, s.restart.lane l = (s.lane l).restart := fun l => by simp [State.restart, State.lane]
  refine ⟨hs.sound, fun l hl => ?_, fun l hl => ?_⟩
  · rw [hlane] at hl
    exact hl
  · rw [zoneFaultActive_iff, hlane] at hl
    exact absurd rfl hl.2

/-- Every request keeps the zones held. -/
theorem ZonesHeld.served {s u : State} (hs : ZonesHeld noStep s) (h : Served s u) : ZonesHeld noStep u := by
  cases h with
  | kept => exact hs
  | mapped m hidle hm => exact hs.calm (.of_lanes rfl (fun _ => rfl))
  | placed m hidle hgate hm => exact hs.calm (.of_lanes rfl (fun _ => rfl))
  | loaded b n r hb hrefs hr => exact hs.calm (s.calm_setEntry b n _)
  | switched x => exact hs.calm (.of_lanes rfl (fun _ => rfl))
  | started l e hidle hm hmap he => exact hs.startLane l e
  | reassigned l e hd he => exact hs.working (.inr hd) _ (by intros; rfl)
  | resumed l hd => exact hs.working (.inr hd) _ (by intros; rfl)
  | drained l hr => exact hs.working (.inl hr) _ (by intros; rfl)
  | purged l hw =>
    have hlane : ((s.mapWeb l (Card.addReason .lanePurge)).lane l).state = (s.lane l).state := by simp [State.mapWeb]
    have hdrain := (hs.calm (s.calm_mapWeb l (Card.addReason .lanePurge))).working (l := l) (by rwa [Working, hlane])
      (fun r => { r with state := .drain }) (by intros; rfl)
    exact hdrain.calm (.of_lanes rfl (fun _ => rfl))
  | cleared l hf hw hg hb => exact hs.calm (s.calm_clearLane l)
  | scheduled l ch hw => exact hs.working hw _ (by intros; rfl)
  | forced l b => exact hs.calm (s.calm_updLane_same l _ (by intros; rfl) (by intros; rfl))
  | autoPurged l b => exact hs.calm (s.calm_updLane_same l _ (by intros; rfl) (by intros; rfl))
  | zeroedAll =>
    have hz := s.calm_eachLane (fun l t => t.updLane l LaneRec.clearCounters)
      (fun l t => t.calm_updLane_same l _ (by intros; rfl) (by intros; rfl))
    exact hs.calm (hz.trans (.of_lanes rfl (fun _ => rfl)))
  | zeroed l => exact hs.calm (s.calm_updLane_same l _ (by intros; rfl) (by intros; rfl))
  | alarmsRead sc => exact hs.calm ((s.calm_clearLatches sc).trans (State.calm_settleStop _))
  | masked summary stop sc => exact hs.calm ((s.calm_maskScope summary stop sc).trans (State.calm_settleStop _))
  | zoneSet l offset limit ho hl => exact hs.setZone l ho hl
  | zonesRead raws => exact foldl_keeps (ZonesHeld noStep) _ raws s hs (fun t raw _ ht => ht.convert raw)
  | roleSet r hr => exact hs.calm (.of_lanes rfl (fun _ => rfl))
  | restarted => exact hs.restart

/-! ## Commands -/

theorem zonesHeld_reset : ZonesHeld noStep State.reset := by
  have hzone : ∀ l, State.reset.zone l = Zone.reset := fun l => by simp [State.reset, State.zone]
  have hlane : ∀ l, State.reset.lane l = LaneRec.reset := fun l => by simp [State.reset, State.lane]
  refine ⟨fun l => by rw [hzone]; exact zoneSound_reset, fun l hl => ?_, fun l hl => ?_⟩
  · rw [hlane] at hl
    exact hl
  · rw [zoneFaultActive_iff, hlane] at hl
    exact absurd rfl hl.2

theorem State.calm_arrive (s : State) (f : Frame) : s.Calm (s.arrive f) := by
  unfold State.arrive
  split
  · exact .of_lanes rfl (fun _ => rfl)
  · split <;> exact .of_lanes rfl (fun _ => rfl)

theorem State.calm_sendHead (s : State) (f : Frame) : s.Calm (s.sendHead f) := .of_lanes (s.sendHead_zones f) (s.lane_sendHead f)

/-- Every command keeps the zones held. -/
theorem ZonesHeld.effect {s t : State} (hs : ZonesHeld noStep s) (h : Effect s t) : ZonesHeld noStep t := by
  cases h with
  | kept => exact hs
  | reset addr high => exact zonesHeld_reset.calm (.of_lanes rfl (fun _ => rfl))
  | halted => exact hs.calm (.of_lanes rfl (fun _ => rfl))
  | removed => exact zonesHeld_reset.calm (.of_lanes rfl (fun _ => rfl))
  | arrived f h => exact hs.calm (s.calm_arrive f)
  | departed f rest h hp hb => exact hs.calm (.of_lanes rfl (fun _ => rfl))
  | rejected f rest cause h hp hb => exact hs.calm (.of_lanes rfl (fun _ => rfl))
  | taken f rest p h hp hb => exact hs.calm (.of_lanes rfl (fun _ => rfl))
  | handedOn f rest h hp hb =>
    unfold State.handOnCycle
    split <;> exact hs.calm (.of_lanes rfl (fun _ => rfl))
  | cycled f rest gapOrder ticks h => exact (hs.processCycle f gapOrder ticks).calm (State.calm_sendHead _ _)
  | saturated h => exact hs.calm (.of_lanes rfl (fun _ => rfl))
  | converted raw h => exact hs.convert raw
  | faulted l h => exact hs.faultAfterStep l (fun _ _ h => h)
  | answered f g u hf hg hu => exact (hs.served hu).calm (State.calm_sendHead _ _)

theorem ZonesHeld.tick {s : State} (hs : ZonesHeld noStep s) : ZonesHeld noStep s.tick := by
  unfold State.tick
  split
  · exact hs.calm (.of_lanes rfl (fun _ => rfl))
  · exact hs

end Sys2Proof.Machine

namespace Sys2Proof.Proofs

open Sys2Proof.Machine Sys2Proof.Safety

/-- Settles O59: between frames no entry to FAULT is due, and while pitch steps run one is due only in a lane whose step is in progress, which
its last stage takes. -/
theorem stepKeepsZones : Obligations.StepKeepsZones := by
  intro s t hs h
  rw [← zonesHeld_noStep_iff] at hs ⊢
  exact step_leads_to (ZonesHeld noStep) (ZonesHeld noStep) (fun s q hs => hs.calm (.of_lanes rfl (fun _ => rfl)))
    (fun s hs => hs.tick) (fun s t hs he => hs.effect he) hs h

end Sys2Proof.Proofs
end

section
/-! PROOFS. A zone that a conversion takes into FAULT, and what that makes of its lane, between frames and while a pitch step is in progress (R45,
R46, R115). -/

namespace Sys2Proof.Machine

open Sys2Proof.Safety

theorem State.setLane_lane (s : State) (l : Lane) : s.setLane l (s.lane l) = s := by
  have h : s.lanes.set l (s.lane l) = s.lanes := Vector.set_getElem_self l.isLt
  rw [State.setLane, h]

/-- Entry to FAULT of a lane that is not IDLE: a lane in FAULT keeps its changeover (R45). -/
theorem LaneRec.enterFault_of_awake {r : LaneRec} (h : r.state ≠ .idle) :
    r.enterFault = { r with state := .fault, changeover := if r.state = .fault then r.changeover else none } := by
  unfold LaneRec.enterFault
  cases hs : r.state with
  | idle => exact absurd hs h
  | run => rfl
  | drain => rfl
  | fault => simp [← hs]

/-- The entry due is taken by a lane in RUN or DRAIN (R46). -/
theorem LaneRec.faultTaken_of_working {r : LaneRec} (hd : r.faultDue = true) (hw : Working r) :
    r.faultTaken = { r with state := .fault, changeover := none, faultDue := false } := by
  unfold LaneRec.faultTaken
  rw [if_pos hd, LaneRec.enterFault_eq, if_pos hw]

/-- It is dropped by a lane that has entered IDLE or FAULT by then (R46). -/
theorem LaneRec.faultTaken_of_not_working {r : LaneRec} (hd : r.faultDue = true) (hw : ¬ Working r) :
    r.faultTaken = { r with faultDue := false } := by
  unfold LaneRec.faultTaken
  rw [if_pos hd, LaneRec.enterFault_eq, if_neg hw]

end Sys2Proof.Machine

namespace Sys2Proof.Proofs

open Sys2Proof.Machine Sys2Proof.Safety

theorem exec_conversionEnd {s : State} (h : s.power = .running) (raw : RawCode) :
    exec (.conversionEnd raw) s = .next (s.convert raw (fun _ => false)) := congrArg Host.Outcome.next (if_pos h)

theorem exec_zoneFaultEntry {s : State} (h : s.power = .running) (l : Lane) :
    exec (.zoneFaultEntryAfterStep l) s = .next (s.setLane l (s.lane l).faultTaken) := congrArg Host.Outcome.next (if_pos h)

/-- A conversion looks only at whether its own lane's pitch step is in progress. -/
theorem convert_congr {s : State} {inStep inStep' : Lane → Bool} (h : inStep s.conv.zone = inStep' s.conv.zone) (raw : RawCode) :
    s.convert raw inStep = s.convert raw inStep' := by
  rw [State.convert_eq, State.convert_eq, h]

/-- Whether the lane's pitch step is in progress decides the lane records alone. -/
theorem convert_frame (s : State) (raw : RawCode) (inStep inStep' : Lane → Bool) :
    { s.convert raw inStep with lanes := s.lanes } = { s.convert raw inStep' with lanes := s.lanes } := by
  by_cases h : s.Faults raw
  · rw [State.convert_of_faults h, State.convert_of_faults h, State.zoneFaultBegins_eq, State.zoneFaultBegins_eq]
    rfl
  · rw [State.convert_of_not h, State.convert_of_not h]

theorem lane_convert_ne (s : State) (raw : RawCode) (inStep : Lane → Bool) {m : Lane} (hm : m ≠ s.conv.zone) :
    (s.convert raw inStep).lane m = s.lane m := by
  rw [State.lane_convert, if_neg (fun h => hm h.2.symm)]

theorem lane_convert_of_faults {s : State} {raw : RawCode} (h : s.Faults raw) (inStep : Lane → Bool) :
    (s.convert raw inStep).lane s.conv.zone = (s.lane s.conv.zone).zoneFaulted (s.converted raw) (inStep s.conv.zone) := by
  rw [State.lane_convert, if_pos ⟨h, rfl⟩]

theorem lanes_convert_of_not {s : State} {raw : RawCode} (h : ¬ s.Faults raw) (inStep : Lane → Bool) :
    (s.convert raw inStep).lanes = s.lanes ∧ (s.convert raw inStep).stopReason = s.stopReason := by
  rw [State.convert_of_not h]
  exact ⟨rfl, rfl⟩

/-- Settles O16: whether ZONE_FAULT becomes active is decided by the zone's state before and after the conversion and by the lane; the entry
to FAULT is that of R45, taken at once or left due. -/
theorem zoneFaultTakesLane : Obligations.ZoneFaultTakesLane := by
  refine ⟨fun raw s hp => ?_, fun raw inStep s => ?_, fun l s hp => ?_⟩
  · refine ⟨_, exec_conversionEnd hp raw, fun m => lane_convert_ne s raw _, ?_⟩
    simp only [State.zone_convert_self]
    refine ⟨fun h => ?_, fun h => lanes_convert_of_not h _⟩
    rw [lane_convert_of_faults h, LaneRec.zoneFaulted_between, LaneRec.enterFault_of_awake h.2.2]
  · simp only [State.zone_convert_self]
    refine ⟨fun h => convert_congr h raw, fun h => ⟨convert_frame s raw _ _, fun m => lane_convert_ne s raw _,
      fun hn => (lanes_convert_of_not hn _).1, fun hf => ?_⟩⟩
    rw [lane_convert_of_faults hf, h, LaneRec.zoneFaulted_inStep, Bool.decide_or]
  · rw [exec_zoneFaultEntry hp]
    refine ⟨fun hd hw => ?_, fun hd hn => ?_, fun hd => ?_⟩
    · rw [LaneRec.faultTaken_of_working hd hw]
    · have hw : ¬ Working (s.lane l) := by rcases hn with hn | hn <;> simp [Working, hn]
      rw [LaneRec.faultTaken_of_not_working hd hw]
    · rw [LaneRec.faultTaken, if_neg (by simp [hd]), State.setLane_lane]

end Sys2Proof.Proofs
end

section
/-! PROOFS. Stage 1 with the evaluation of STATION_LOST, and stages 3 and 7 of the pitch step (R43, R45, R47, R51, R53, R55, R74, R83, R85, R127). -/

namespace Sys2Proof.Proofs

open Sys2Proof.Machine Sys2Proof.Safety

/-! ## STATION_LOST -/

/-- A silence counter of the lane stands at or above the limit (R85). -/
def atLimit (s : State) (l : Lane) : Bool := ((s.lane l).silence.atLimit s.map.silenceLimit).any (fun b => b)

theorem atLimit_iff (s : State) (l : Lane) : atLimit s l = true ↔
    s.map.silenceLimit ≤ (s.lane l).silence.load ∨ s.map.silenceLimit ≤ (s.lane l).silence.inspect ∨
      s.map.silenceLimit ≤ (s.lane l).silence.card ∨ s.map.silenceLimit ≤ (s.lane l).silence.sealing := by
  simp [atLimit, Silence.atLimit]

/-- The kinds at the limit, in bit order (R85, R172). -/
theorem bitsFromLow_atLimit (n : Nat) (c : Silence) : bitsFromLow (c.atLimit n) =
    (if n ≤ c.load then 1 else 0) + (if n ≤ c.inspect then 2 else 0) + (if n ≤ c.card then 4 else 0) +
      if n ≤ c.sealing then 8 else 0 := by
  simp [Silence.atLimit, bitsFromLow, Nat.add_assoc]

theorem evalStationLost_eq (s : State) (l : Lane) : s.evalStationLost l =
    if (atLimit s l && !(s.lane l).stationLost) = true then
      ((s.updLane l (fun r => { r with stationLost := atLimit s l })).latchLane l .stationLost
        [byteOf (bitsFromLow ((s.lane l).silence.atLimit s.map.silenceLimit))]).updLane l
          (fun r => if r.autoPurge then r.enterFault else r)
    else s.updLane l (fun r => { r with stationLost := atLimit s l }) := rfl

/-- STATION_LOST is set or cleared and does not become active (R85). -/
theorem evalStationLost_of_not {s : State} {l : Lane} (h : ¬ (atLimit s l = true ∧ (s.lane l).stationLost = false)) :
    s.evalStationLost l = s.updLane l (fun r => { r with stationLost := atLimit s l }) := by
  rw [evalStationLost_eq, if_neg (by simpa using h)]

/-- STATION_LOST becomes active (R53, R85). -/
theorem evalStationLost_of_became {s : State} {l : Lane} (h : atLimit s l = true) (hs : (s.lane l).stationLost = false) :
    s.evalStationLost l =
      ((s.updLane l (fun r => { r with stationLost := atLimit s l })).latchLane l .stationLost
        [byteOf (bitsFromLow ((s.lane l).silence.atLimit s.map.silenceLimit))]).updLane l
          (fun r => if r.autoPurge then r.enterFault else r) := by
  rw [evalStationLost_eq, if_pos (by rw [h, hs]; rfl)]

/-- The record of a lane whose STATION_LOST becomes active (R53, R85). -/
theorem lane_evalStationLost_of_became {s : State} {l : Lane} (h : atLimit s l = true) (hs : (s.lane l).stationLost = false) :
    (s.evalStationLost l).lane l =
      { (if (s.lane l).autoPurge then (s.lane l).enterFault else s.lane l) with
        stationLost := atLimit s l
        alarms := latchedLane (s.lane l) .stationLost [byteOf (bitsFromLow ((s.lane l).silence.atLimit s.map.silenceLimit))] } := by
  rw [evalStationLost_of_became h hs, State.lane_updLane_self, State.lane_latchLane_self, State.lane_updLane_self]
  dsimp only
  split
  · rw [LaneRec.enterFault_eq, LaneRec.enterFault_eq]
    split <;> rfl
  · rfl

/-- Evaluation changes the record of its lane and the stop reason alone. -/
theorem evalStationLost_frame (s : State) (l : Lane) :
    (∀ m, m ≠ l → (s.evalStationLost l).lane m = s.lane m) ∧ s.LanesOnly (s.evalStationLost l) := by
  by_cases h : atLimit s l = true ∧ (s.lane l).stationLost = false
  · rw [evalStationLost_of_became h.1 h.2]
    refine ⟨fun m hm => ?_, ?_⟩
    · rw [State.lane_updLane_ne _ _ hm.symm, State.lane_latchLane_ne _ _ _ hm.symm, State.lane_updLane_ne _ _ hm.symm]
    · refine State.LanesOnly.trans ?_ (State.lanesOnly_updLane _ l _)
      exact State.LanesOnly.trans (s.lanesOnly_updLane l _) (State.lanesOnly_latchLane _ l _ _)
  · rw [evalStationLost_of_not h]
    exact ⟨fun m hm => s.lane_updLane_ne _ hm.symm, s.lanesOnly_updLane l _⟩

theorem stationLost_evalStationLost (s : State) (l : Lane) : ((s.evalStationLost l).lane l).stationLost = atLimit s l := by
  by_cases h : atLimit s l = true ∧ (s.lane l).stationLost = false
  · rw [lane_evalStationLost_of_became h.1 h.2]
  · rw [evalStationLost_of_not h, State.lane_updLane_self]

/-- Stage 1 of a frame that applies no reports (R55, R74). -/
theorem stage1_silent (f : Frame) (k : Index) {l : Lane} {s : State} (h : (s.lane l).state ≠ .idle) :
    stage1 f k false l s = s.evalStationLost l := by
  unfold stage1
  rw [if_neg h]
  simp only [Bool.false_eq_true, if_false]

/-- Stage 1 of a frame that applies reports: the four kinds, the gate's count and the evaluation (R55, R74, R83). -/
theorem stage1_reporting (f : Frame) (k : Index) {l : Lane} {s : State} (h : (s.lane l).state ≠ .idle) :
    stage1 f k true l s =
      (((((s.applyReport f l k .load).applyReport f l k .inspect).applyReport f l k .card).applyReport f l k .sealing).applyGateCount l k
        (s.rejectsSeen f l)).evalStationLost l := by
  unfold stage1
  rw [if_neg h]
  simp only [if_true, List.foldl_cons, List.foldl_nil]

/-- Settles O23: the order of stage 1 is that of its definition; its end is decided by whether STATION_LOST becomes active. -/
theorem stationLostEvaluation : Obligations.StationLostEvaluation := by
  refine ⟨fun f k l s => ⟨fun applies h => if_pos h, stage1_silent f k, stage1_reporting f k⟩, fun l s => ?_⟩
  obtain ⟨hothers, hframe⟩ := evalStationLost_frame s l
  simp only [← atLimit_iff]
  refine ⟨hothers, hframe.frame, by rw [stationLost_evalStationLost], fun h => ?_, fun h hs => ?_⟩
  · have hnot : ¬ (atLimit s l = true ∧ (s.lane l).stationLost = false) := fun ⟨ha, hl⟩ => by simp [ha, hl] at h
    rw [evalStationLost_of_not hnot, State.lane_updLane_self]
    exact ⟨rfl, rfl⟩
  · rw [lane_evalStationLost_of_became h hs, bitsFromLow_atLimit]
    refine ⟨rfl, ?_⟩
    rw [LaneRec.enterFault_eq, ite_and]
    split
    · split <;> rfl
    · rfl

/-! ## Stage 3 -/

theorem stage3_of_fault {k : Index} {l : Lane} {s : State} (h : (s.lane l).state = .fault) :
    stage3 k l s = s.mapWeb l (Card.addReason .lanePurge) := by unfold stage3; rw [h]

theorem stage3_of_idle {k : Index} {l : Lane} {s : State} (h : (s.lane l).state = .idle) : stage3 k l s = s := by
  unfold stage3; rw [h]

theorem stage3_of_working {k : Index} {l : Lane} {s : State} (h : Working (s.lane l)) : stage3 k l s = s.takeChangeover k l := by
  unfold stage3
  rcases h with h | h <;> rw [h]

theorem takeChangeover_of_none {k : Index} {l : Lane} {s : State} (h : (s.lane l).changeover = none) : s.takeChangeover k l = s := by
  unfold State.takeChangeover; rw [h]

/-- A pending changeover, by the index and by its entry in the active bank (R51). -/
theorem takeChangeover_of_some {k : Index} {l : Lane} {s : State} {ch : Changeover} (h : (s.lane l).changeover = some ch) :
    s.takeChangeover k l =
      if reached ch.index k then
        if (s.entry s.active ch.entry).valid then s.updLane l (fun r => { r with assigned := ch.entry, changeover := none })
        else (s.updLane l (fun r => { r with changeover := none })).latchLane l .changeoverFailed (byteOf ch.entry :: bytes16 ch.index)
      else s := by
  unfold State.takeChangeover; rw [h]

/-- Settles O24: stage 3 by the lane's state, and a pending changeover by the reached test and its entry. -/
theorem stageThree : Obligations.StageThree := by
  refine ⟨fun l r s => ⟨s.lane_setLane_self l r, fun m hm => s.lane_setLane_ne r hm.symm, rfl⟩, fun k l s =>
    ⟨stage3_of_fault, stage3_of_idle, fun hw => ?_⟩⟩
  simp only [stage3_of_working hw, ← reached_iff]
  refine ⟨takeChangeover_of_none, fun ch hch => ?_⟩
  rw [takeChangeover_of_some hch]
  refine ⟨fun hfar => if_neg ?_, fun hr hv => ?_, fun hr hv => ?_⟩
  · rw [reached_iff]
    omega
  · rw [if_pos hr, if_pos (show (s.entry s.active ch.entry).valid = true from hv)]
    rfl
  · rw [if_pos hr, if_neg (by simp [Entry.valid, hv])]
    refine ⟨?_, fun m hm => ?_, ((s.lanesOnly_updLane l _).trans (State.lanesOnly_latchLane _ l _ _)).frame⟩
    · rw [State.lane_latchLane_self, State.lane_updLane_self]
      rfl
    · rw [State.lane_latchLane_ne _ _ _ hm.symm, State.lane_updLane_ne _ _ hm.symm]

/-! ## The run-end close and stage 7 -/

/-- An open FIXED batch stays open (R127). -/
theorem runEndClose_of_fixed {r : LaneRec} {b : Batch} (mode : Option CloseMode) (full : Bool) (hb : r.openBatch = some b)
    (hm : b.mode = .fixed) : r.runEndClose mode full = (r, none) := by
  unfold LaneRec.runEndClose
  simp only [hb, hm]

/-- Any other open batch is closed short (R127). -/
theorem runEndClose_of_open {r : LaneRec} {b : Batch} (mode : Option CloseMode) (full : Bool) (hb : r.openBatch = some b)
    (hm : b.mode ≠ .fixed) :
    r.runEndClose mode full = ({ r with openBatch := none }.bump 20 1, some ⟨.closeShort, b.number, b.count⟩) := by
  unfold LaneRec.runEndClose
  simp only [hb]
  cases h : b.mode with
  | fixed => exact absurd h hm
  | runEnd => rfl
  | runEndMark => rfl

/-- With no open batch a RUN_END_MARK entry closes empty, unless the step has closed a full batch (R127). -/
theorem runEndClose_of_mark {r : LaneRec} {mode : Option CloseMode} (full : Bool) (hb : r.openBatch = none)
    (hm : mode = some .runEndMark) :
    r.runEndClose mode full = (r, if full then none else some ⟨.closeEmptyEnd, r.lastBatch, 0⟩) := by
  unfold LaneRec.runEndClose
  simp only [hb, hm]

/-- Any other entry closes nothing (R127). -/
theorem runEndClose_of_unmarked {r : LaneRec} {mode : Option CloseMode} (full : Bool) (hb : r.openBatch = none)
    (hm : mode ≠ some .runEndMark) : r.runEndClose mode full = (r, none) := by
  unfold LaneRec.runEndClose
  simp only [hb]
  rcases mode with _ | _ | _ | _
  · rfl
  · rfl
  · rfl
  · exact absurd rfl hm

theorem stage7_of_not {l : Lane} {s : State} (h : ¬ ((s.lane l).state = .drain ∧ (s.lane l).web = [] ∧ s.gateOf l = [])) :
    stage7 l s = s := if_neg h

/-- A lane in DRAIN with no card and no gate entry (R43). -/
theorem stage7_of_empty {l : Lane} {s : State} (hs : (s.lane l).state = .drain) (hw : (s.lane l).web = []) (hg : s.gateOf l = [])
    {events : List StackEvent} (he : plannedEvents (s.lane l).plan.stack = events) {q : LaneRec} {close : Option StackEvent}
    (hclose : (s.lane l).enterIdle.runEndClose (s.assignedMode l) (events.any (fun e => e.kind = .closeFull)) = (q, close)) :
    stage7 l s = s.setLane l { q with plan := { q.plan with stack := some (.stack (events ++ close.toList)) } } := by
  unfold stage7
  simp only [hs, hw, hg, he, hclose, and_self, if_true]

/-- Settles O27: the run-end close in its cases, with its event behind those already planned. -/
theorem drainedLaneEntersIdle : Obligations.DrainedLaneEntersIdle := by
  intro l s r t planned idle
  have hp : plannedEvents (s.lane l).plan.stack = planned := rfl
  refine ⟨stage7_of_not, fun hs hw hg => ⟨fun b hb hm => ?_, fun b hb hm => ?_, fun hb hm hfull => ?_, fun hb hm hfull => ?_,
    fun hb hm => ?_⟩⟩
  · exact stage7_of_empty hs hw hg hp (runEndClose_of_fixed _ _ hb hm)
  · exact stage7_of_empty hs hw hg hp (runEndClose_of_open _ _ hb hm)
  · have hnone : planned.any (fun e => e.kind = .closeFull) = false := by simpa using hfull
    refine (stage7_of_empty hs hw hg hp (runEndClose_of_mark _ hb hm)).trans ?_
    rw [hnone]
    rfl
  · have hsome : planned.any (fun e => e.kind = .closeFull) = true := by simpa using hfull
    refine (stage7_of_empty hs hw hg hp (runEndClose_of_mark _ hb hm)).trans ?_
    rw [hsome]
    rfl
  · exact stage7_of_empty hs hw hg hp (runEndClose_of_unmarked _ hb hm)

end Sys2Proof.Proofs
end

section
/-! PROOFS. LANE RUN (R40, R41, R165, R167): what a LANE_COMMAND answers under the node address, and what a lane needs to start. -/

namespace Sys2Proof.Proofs

open Sys2Proof.Machine Sys2Proof.Safety

/-! ## A LANE_COMMAND under the node address -/

/-- A malformed operand is refused FORMAT (R167). -/
theorem serve_lane_malformed {r : Request} {usesEntry usesIndex : Bool} (g : List Byte → State → Lane → Answer) {f : Frame}
    {rest : List Frame} {s : State} (h : Serves s f rest r) (ho : ¬ LaneOperand f usesEntry usesIndex) :
    serve r (fun d s => laneCommand usesEntry usesIndex d s (g d s)) s = .next (refusedFormat s f rest) := by
  have hd := laneCommand_malformed f usesEntry usesIndex s (g (serviceData f) s) ho
  rw [serve_addressed _ _ f rest s h (by rw [hd]; rfl), hd]
  rfl

/-- A lane above 5 is refused RANGE (R40). -/
theorem serve_lane_above {r : Request} {usesEntry usesIndex : Bool} (g : List Byte → State → Lane → Answer) {f : Frame}
    {rest : List Frame} {s : State} (h : Serves s f rest r) (ho : LaneOperand f usesEntry usesIndex) (hl : 5 < natAt (serviceData f) 0) :
    serve r (fun d s => laneCommand usesEntry usesIndex d s (g d s)) s = .next (replied s f rest .refusedRange []) := by
  have hd := laneCommand_no_lane f usesEntry usesIndex s (g (serviceData f) s) ho hl
  rw [serve_addressed _ _ f rest s h (by rw [hd]; rfl), hd]
  rfl

/-- A well-formed command for a lane answers what its own rule decides (R40). -/
theorem serve_lane {r : Request} {usesEntry usesIndex : Bool} (g : List Byte → State → Lane → Answer) {f : Frame} {rest : List Frame}
    {s : State} {l : Lane} {a : Answer} (h : Serves s f rest r) (ho : LaneOperand f usesEntry usesIndex)
    (hl : natAt (serviceData f) 0 = l) (ha : g (serviceData f) s l = a) (hb : a.state.buffer = s.buffer) :
    serve r (fun d s => laneCommand usesEntry usesIndex d s (g d s)) s = .next (replied a.state f rest a.status a.data) := by
  have hd : laneCommand usesEntry usesIndex (serviceData f) s (g (serviceData f) s) = a :=
    (laneCommand_lane f usesEntry usesIndex s (g (serviceData f) s) l ho hl).trans ha
  rw [serve_addressed _ _ f rest s h (by rw [hd]; exact hb), hd]

/-! ## What a lane needs to start -/

theorem slotOf_isSome_iff (s : State) (u : SlotUse) : (s.slotOf u).isSome = true ↔ ∃ i : Fin 48, s.slotMap[i] = u := by
  rw [State.slotOf, List.findIdx?_isSome, List.any_eq_true]
  constructor
  · rintro ⟨v, hv, hu⟩
    obtain ⟨i, hi, rfl⟩ := List.mem_iff_getElem.1 hv
    exact ⟨⟨i, by simpa using hi⟩, by simpa using hu⟩
  · rintro ⟨i, hi⟩
    exact ⟨u, List.mem_iff_getElem.2 ⟨i, by simp, by simpa using hi⟩, by simp⟩

/-- A lane's eleven uses: a command slot of every kind, and a report slot of every kind but STACK (R41). -/
theorem laneMapped_iff (s : State) (l : Lane) : s.laneMapped l = true ↔ ∀ kind : Kind, (∃ i : Fin 48, s.slotMap[i] = .command kind l) ∧
    (kind ≠ .stack → ∃ i : Fin 48, s.slotMap[i] = .report kind l) := by
  simp only [State.laneMapped, Bool.and_eq_true, List.all_eq_true, slotOf_isSome_iff]
  constructor
  · rintro ⟨hc, hr⟩ kind
    exact ⟨hc kind (by cases kind <;> simp), fun hk => hr kind (by cases kind <;> simp at hk ⊢)⟩
  · refine fun h => ⟨fun kind _ => (h kind).1, fun kind hk => (h kind).2 ?_⟩
    rintro rfl
    simp at hk

theorem activeEntry_of_valid {s : State} {n : Nat} {e : EntryNo} (hn : n = e.val) (hv : (s.entry s.active e).recipe.isSome = true) :
    s.activeEntry n = some e := by
  subst hn
  rw [State.activeEntry, entryOf, dif_pos e.isLt]
  exact Option.filter_eq_some_iff.2 ⟨rfl, hv⟩

theorem activeEntry_of_not {s : State} {n : Nat} (h : ¬ ∃ e : EntryNo, n = e.val ∧ (s.entry s.active e).recipe.isSome = true) :
    s.activeEntry n = none := by
  rw [State.activeEntry, Option.filter_eq_none_iff]
  intro e he hv
  unfold entryOf at he
  split at he
  · cases he
    exact h ⟨_, rfl, hv⟩
  · cases he

/-! ## LANE RUN -/

theorem entryByte_of_none {d : List Byte} (h : natAt d 2 = 255) : entryByte d = none := if_pos h

theorem entryByte_of_some {d : List Byte} (h : natAt d 2 ≠ 255) : entryByte d = some (natAt d 2) := if_neg h

theorem entryByte_of_entry {d : List Byte} {e : EntryNo} (h : natAt d 2 = e.val) : entryByte d = some (natAt d 2) :=
  entryByte_of_some (by have := e.isLt; omega)

/-- In RUN and FAULT it is refused (R41). -/
theorem runLane_of_busy (d : List Byte) {s : State} {l : Lane} (h : (s.lane l).state = .run ∨ (s.lane l).state = .fault) :
    runLane d s l = refuseLane .refusedState l s := by
  unfold runLane
  rcases h with h | h <;> rw [h]

/-- From IDLE without an entry it is malformed (R40). -/
theorem runLane_of_idle_none {d : List Byte} {s : State} {l : Lane} (h : (s.lane l).state = .idle) (hd : entryByte d = none) :
    runLane d s l = refuseFormat s := by
  unfold runLane
  simp only [h, hd]

/-- From IDLE it needs the Station Map and the lane's uses (R41). -/
theorem runLane_of_unready {d : List Byte} {s : State} {l : Lane} {n : Nat} (h : (s.lane l).state = .idle) (hd : entryByte d = some n)
    (hr : (s.stations.isNone || !s.laneMapped l) = true) : runLane d s l = refuseLane .refusedState l s := by
  unfold runLane
  simp only [h, hd, hr, if_true]

/-- It needs an entry VALID in the active bank (R41). -/
theorem runLane_of_no_entry {d : List Byte} {s : State} {l : Lane} {n : Nat} (h : (s.lane l).state = .idle) (hd : entryByte d = some n)
    (hr : ¬ (s.stations.isNone || !s.laneMapped l) = true) (hn : s.activeEntry n = none) :
    runLane d s l = refuseLane .refusedRange l s := by
  unfold runLane
  simp only [h, hd, hr, hn, Bool.false_eq_true, if_false]

/-- With these it starts (R41). -/
theorem runLane_of_ready {d : List Byte} {s : State} {l : Lane} {n : Nat} {e : EntryNo} (h : (s.lane l).state = .idle)
    (hd : entryByte d = some n) (hr : ¬ (s.stations.isNone || !s.laneMapped l) = true) (hn : s.activeEntry n = some e) :
    runLane d s l = takeLane .done false l (s.startLane l e) := by
  unfold runLane
  simp only [h, hd, hr, hn, Bool.false_eq_true, if_false]

/-- A draining lane resumes with its own entry (R41). -/
theorem runLane_of_drain_none {d : List Byte} {s : State} {l : Lane} (h : (s.lane l).state = .drain) (hd : entryByte d = none) :
    runLane d s l = takeLane .done false l (s.updLane l (fun r => { r with state := .run })) := by
  unfold runLane
  simp only [h, hd]

/-- It needs one VALID in the active bank to resume with another entry (R41). -/
theorem runLane_of_drain_no_entry {d : List Byte} {s : State} {l : Lane} {n : Nat} (h : (s.lane l).state = .drain)
    (hd : entryByte d = some n) (hn : s.activeEntry n = none) : runLane d s l = refuseLane .refusedRange l s := by
  unfold runLane
  simp only [h, hd, hn]

/-- A draining lane resumes with another entry (R41). -/
theorem runLane_of_drain_entry {d : List Byte} {s : State} {l : Lane} {n : Nat} {e : EntryNo} (h : (s.lane l).state = .drain)
    (hd : entryByte d = some n) (hn : s.activeEntry n = some e) :
    runLane d s l = takeLane .done false l (s.updLane l (fun r => { r with state := .run, assigned := e })) := by
  unfold runLane
  simp only [h, hd, hn]

/-- Settles O47: the lane's state, then the operand, the maps and the entry, in the order of R41. -/
theorem laneRunStarts : Obligations.LaneRunStarts := by
  refine ⟨fun f rest s h => ⟨serve_lane_malformed runLane h, serve_lane_above runLane h⟩, ?_⟩
  intro f rest s l h ho hl n r ready valid refused taken
  have hready : ready ↔ ¬ (s.stations.isNone || !s.laneMapped l) = true := by
    show (_ ∧ _) ↔ _
    rw [← laneMapped_iff]
    cases s.stations <;> simp
  have answer : ∀ {a : Answer}, runLane (serviceData f) s l = a → a.state.buffer = s.buffer →
      exec .laneRun s = .next (replied a.state f rest a.status a.data) := fun ha hb => serve_lane runLane h ho hl ha hb
  have take : ∀ {t : State}, runLane (serviceData f) s l = takeLane .done false l t → t.buffer = s.buffer → taken t := answer
  have decline : ∀ {status : Status}, runLane (serviceData f) s l = refuseLane status l s → refused status := fun ha => answer ha rfl
  have active : ∀ {e : EntryNo}, valid → n = e.val → s.activeEntry n = some e := fun {e} ⟨e', hn', hv'⟩ hn => by
    obtain rfl : e = e' := Fin.ext (hn.symm.trans hn')
    exact activeEntry_of_valid hn hv'
  have start : ∀ e : EntryNo, r.state = .idle → ready → valid → n = e.val → taken (s.startLane l e) := fun e hs hr hv hn =>
    take (runLane_of_ready hs (entryByte_of_entry hn) (hready.1 hr) (active hv hn)) (s.lanesOnly_startLane l e).buffer
  refine ⟨fun hs => decline (runLane_of_busy _ hs), fun hs hn => answer (runLane_of_idle_none hs (entryByte_of_none hn)) rfl,
    fun hs hn hr => ?_, fun hs hn hr hv => ?_, fun e hs hr hv hn hz => ?_, fun e hs hr hv hn hz => ?_,
    fun hs hn => take (runLane_of_drain_none hs (entryByte_of_none hn)) rfl, fun hs hn hv => ?_, fun e hs hv hn => ?_⟩
  · exact decline (runLane_of_unready hs (entryByte_of_some hn) (by_contra fun hb => hr (hready.2 hb)))
  · exact decline (runLane_of_no_entry hs (entryByte_of_some hn) (hready.1 hr) (activeEntry_of_not hv))
  · have ht := start e hs hr hv hn
    rwa [State.startLane_of_ne_fault hz] at ht
  · exact ⟨_, start e hs hr hv hn, fun m hm => s.lane_startLane_ne e hm.symm, (s.lanesOnly_startLane l e).frame,
      State.lane_startLane_self hz e⟩
  · exact decline (runLane_of_drain_no_entry hs (entryByte_of_some hn) (activeEntry_of_not hv))
  · exact take (runLane_of_drain_entry hs (entryByte_of_entry hn) (active hv hn)) rfl

end Sys2Proof.Proofs
end

section
/-! PROOFS. LANE DRAIN, PURGE and CLEAR (R42, R44, R48, R127, R160, R165, R167). -/

namespace Sys2Proof.Proofs

open Sys2Proof.Machine Sys2Proof.Safety

/-! ## LANE DRAIN -/

theorem drainLane_of_run {s : State} {l : Lane} (h : (s.lane l).state = .run) :
    drainLane s l = takeLane .done false l (s.updLane l (fun r => { r with state := .drain })) := by
  unfold drainLane; rw [h]

theorem drainLane_of_rest {s : State} {l : Lane} (h : (s.lane l).state = .drain ∨ (s.lane l).state = .idle) :
    drainLane s l = takeLane .done false l s := by
  unfold drainLane
  rcases h with h | h <;> rw [h]

theorem drainLane_of_fault {s : State} {l : Lane} (h : (s.lane l).state = .fault) : drainLane s l = refuseLane .refusedState l s := by
  unfold drainLane; rw [h]

/-! ## LANE PURGE -/

/-- Every card on the web list is marked, in the state and in the kept views, and the lane drains (R44, R160). -/
theorem purgeLane_of_working {s : State} {l : Lane} (h : Working (s.lane l)) :
    purgeLane s l = takeLane .done false l
      ((s.updLane l (fun r => { r with state := .drain, web := r.web.map (Card.addReason .lanePurge) })).eachView
        (CardView.purge l (s.lane l).web (Card.addReason .lanePurge))) := by
  have hupd : (s.mapWeb l (Card.addReason .lanePurge)).updLane l (fun r => { r with state := .drain }) =
      s.updLane l (fun r => { r with state := .drain, web := r.web.map (Card.addReason .lanePurge) }) := s.updLane_updLane l _ _
  unfold purgeLane
  rw [hupd]
  rcases h with h | h <;> rw [h]

theorem purgeLane_of_idle {s : State} {l : Lane} (h : (s.lane l).state = .idle) : purgeLane s l = takeLane .done false l s := by
  unfold purgeLane; rw [h]

theorem purgeLane_of_fault {s : State} {l : Lane} (h : (s.lane l).state = .fault) : purgeLane s l = refuseLane .refusedState l s := by
  unfold purgeLane; rw [h]

/-- The cards of a kept view that are on the web list by their serials are marked in it (R30, R160). -/
theorem cardView_purge (l : Lane) (web : List Card) (mark : Card → Card) : CardView.purge l web mark = fun v =>
    { v with webs := v.webs.set l (v.webs[l].map (fun c => if ∃ x ∈ web, x.serial = c.serial then mark c else c)) } := by
  funext v
  simp only [CardView.purge, List.any_eq_true, decide_eq_true_eq]

/-! ## LANE CLEAR -/

theorem clearLane_of_working {s : State} {l : Lane} (h : Working (s.lane l)) : clearLane s l = refuseLane .refusedState l s := by
  unfold clearLane
  rcases h with h | h <;> simp only [h]

theorem clearLane_of_idle {s : State} {l : Lane} (h : (s.lane l).state = .idle) : clearLane s l = takeLane .done false l s := by
  unfold clearLane; simp only [h]

/-- A lane in FAULT is cleared once it is empty and its blind window is over (R48). -/
theorem clearLane_of_fault {s : State} {l : Lane} (h : (s.lane l).state = .fault) :
    clearLane s l = if (s.lane l).web = [] ∧ s.gateOf l = [] ∧ (s.lane l).blind = 0 then takeLane .done false l (s.clearLane l)
      else refuseLane .refusedBusy l s := by
  unfold clearLane; simp only [h]

/-- The event of the run-end close is held unless one is held already (R48). -/
theorem state_clearLane {s : State} {l : Lane} {q : LaneRec} {close : Option StackEvent}
    (h : (s.lane l).enterIdle.runEndClose (s.assignedMode l) false = (q, close)) :
    s.clearLane l = s.setLane l { q with held := q.held <|> close } := by
  unfold State.clearLane
  rw [h]

theorem held_orElse (held : Option StackEvent) (e : StackEvent) : (held <|> some e) = if held = none then some e else held := by
  cases held <;> rfl

theorem held_orElse_none (held : Option StackEvent) : (held <|> none) = held := by cases held <;> rfl

/-- Settles O48: each command by the lane's state; CLEAR then by the cases of the run-end close. -/
theorem drainPurgeClear : Obligations.DrainPurgeClear := by
  refine ⟨fun f rest s c r hc h => ?_, fun f rest s l ho hl => ?_⟩
  · simp only [List.mem_cons, Prod.mk.injEq, List.not_mem_nil, or_false] at hc
    rcases hc with ⟨rfl, rfl⟩ | ⟨rfl, rfl⟩ | ⟨rfl, rfl⟩
    · exact ⟨serve_lane_malformed (fun _ => drainLane) h, serve_lane_above (fun _ => drainLane) h⟩
    · exact ⟨serve_lane_malformed (fun _ => purgeLane) h, serve_lane_above (fun _ => purgeLane) h⟩
    · exact ⟨serve_lane_malformed (fun _ => clearLane) h, serve_lane_above (fun _ => clearLane) h⟩
  intro r answer mark
  refine ⟨fun h => ?_, fun h => ?_, fun h => ?_⟩
  · have drain : ∀ {t : State} {status : Status}, drainLane s l = ⟨status, t.laneReply false l, t⟩ → t.buffer = s.buffer →
        answer .laneDrain t status := serve_lane (fun _ => drainLane) h ho hl
    exact ⟨fun hs => drain (drainLane_of_run hs) rfl, fun hs => drain (drainLane_of_rest hs) rfl, fun hs => drain (drainLane_of_fault hs) rfl⟩
  · have purge : ∀ {t : State} {status : Status}, purgeLane s l = ⟨status, t.laneReply false l, t⟩ → t.buffer = s.buffer →
        answer .lanePurge t status := serve_lane (fun _ => purgeLane) h ho hl
    refine ⟨fun hs => purge ?_ rfl, fun hs => purge (purgeLane_of_idle hs) rfl, fun hs => purge (purgeLane_of_fault hs) rfl⟩
    rw [purgeLane_of_working hs, cardView_purge]
    rfl
  · have clear : ∀ {t : State} {status : Status}, clearLane s l = ⟨status, t.laneReply false l, t⟩ → t.buffer = s.buffer →
        answer .laneClear t status := serve_lane (fun _ => clearLane) h ho hl
    refine ⟨fun hs => clear (clearLane_of_working hs) rfl, fun hs => clear (clearLane_of_idle hs) rfl,
      fun hs hbusy => clear ?_ rfl, fun hs hw hg hb => ?_⟩
    · rw [clearLane_of_fault hs, if_neg (by tauto)]
      rfl
    · have closed : ∀ {q : LaneRec} {close : Option StackEvent},
          (s.lane l).enterIdle.runEndClose (s.assignedMode l) false = (q, close) →
            answer .laneClear (s.setLane l { q with held := q.held <|> close }) .done := fun hclose =>
        clear (by rw [clearLane_of_fault hs, if_pos ⟨hw, hg, hb⟩, state_clearLane hclose]; rfl) rfl
      refine ⟨fun b hopen hm => ?_, fun b hopen hm => ?_, fun hopen hm => ?_, fun hopen hm => ?_⟩
      · have hc := closed (runEndClose_of_fixed _ _ hopen hm)
        rwa [held_orElse_none] at hc
      · have hc := closed (runEndClose_of_open _ _ hopen hm)
        rwa [held_orElse] at hc
      · have hc := closed (runEndClose_of_mark _ hopen hm)
        rwa [if_neg (by decide), held_orElse] at hc
      · have hc := closed (runEndClose_of_unmarked _ hopen hm)
        rwa [held_orElse_none] at hc

end Sys2Proof.Proofs
end

section
/-! PROOFS. The reply to a lane command byte by byte, LANE CHANGEOVER, and the FORCE and AUTO_PURGE flags (R40, R50, R52, R53, R165, R167). -/

namespace Sys2Proof.Proofs

open Sys2Proof.Machine Sys2Proof.Safety

/-! ## The lane reply -/

/-- The number of some flags fits as many bits. -/
theorem bitsFromLow_lt (bs : List Bool) : bitsFromLow bs < 2 ^ bs.length := by
  induction bs with
  | nil => simp [bitsFromLow]
  | cons b bs ih =>
    rw [bitsFromLow_cons, Nat.bit_val, List.length_cons, Nat.pow_succ]
    cases b <;> simp <;> omega

/-- The byte of the flags and the gate entries: its low bits are the flags (R165). -/
theorem getLsbD_summaryFlags (bs : List Bool) (n j : Nat) (hbs : bs.length ≤ 3) (hj : j < 3) :
    (byteOf (bitsFromLow bs + 16 * n)).getLsbD j = bs.getD j false := by
  have hlt : bitsFromLow bs < 2 ^ 4 :=
    (bitsFromLow_lt bs).trans_le (Nat.pow_le_pow_right (by decide) (hbs.trans (by decide)))
  rw [getLsbD_byteOf, decide_eq_true (by omega), Bool.true_and, Nat.add_comm, show 16 = 2 ^ 4 from rfl,
    Nat.testBit_two_pow_mul_add n hlt, if_pos (by omega), testBit_bitsFromLow]

/-- Its high bits count the gate entries, which are at most three (R4, R165). -/
theorem toNat_summaryFlags (bs : List Bool) (n : Nat) (hbs : bs.length = 3) (hn : n ≤ 3) :
    (byteOf (bitsFromLow bs + 16 * n)).toNat / 8 = 2 * n := by
  have hlt := bitsFromLow_lt bs
  rw [hbs] at hlt
  rw [toNat_byteOf (by omega)]
  omega

/-- The nine bytes of the reply (R165). -/
theorem laneReply_eq (s : State) (replaced : Bool) (l : Lane) :
    s.laneReply replaced l = [byteOf l, byteOf (s.lane l).state.code, byteOf (s.lane l).assigned,
      ((s.lane l).changeover.map (fun c => byteOf c.entry)).getD 0xFF,
      (((s.lane l).changeover.map Changeover.index).getD 0).extractLsb' 8 8,
      (((s.lane l).changeover.map Changeover.index).getD 0).extractLsb' 0 8,
      byteOf (bitsFromLow [(s.lane l).force, (s.lane l).autoPurge, replaced] + 16 * (s.gateOf l).length),
      byteOf (s.lane l).blind, byteOf (s.lane l).web.length] := rfl

theorem byteOf_stateCode (st : LaneState) :
    byteOf st.code = (match st with | .idle => 0 | .run => 1 | .drain => 2 | .fault => 3) := by
  cases st <;> rfl

/-! ## LANE CHANGEOVER -/

/-- With an entry given, CHANGEOVER is a LANE_COMMAND that uses every field (R50, R167). -/
theorem decideLaneChangeover_of_entry {d : List Byte} (s : State) (h : natAt d 2 ≠ 255) :
    decideLaneChangeover d s = laneCommand true true d s (changeoverLane d s) := by
  rw [decideLaneChangeover, entryByte_of_some h, if_neg (by simp)]

theorem exec_laneChangeover_addressed {f : Frame} {rest : List Frame} {s : State} {a : Answer} (h : Serves s f rest .laneChangeover)
    (ha : decideLaneChangeover (serviceData f) s = a) (hb : a.state.buffer = s.buffer) :
    exec .laneChangeover s = .next (replied a.state f rest a.status a.data) := by
  subst ha
  exact serve_addressed _ _ f rest s h hb

/-- CHANGEOVER without an entry is malformed whatever the lane (R40). -/
theorem decideLaneChangeover_malformed {f : Frame} (s : State) (h : ¬ LaneOperand f true true ∨ natAt (serviceData f) 2 = 255) :
    decideLaneChangeover (serviceData f) s = refuseFormat s := by
  by_cases hn : natAt (serviceData f) 2 = 255
  · rw [decideLaneChangeover, entryByte_of_none hn, if_pos rfl]
  · rw [decideLaneChangeover_of_entry s hn, laneCommand_malformed f true true s _ (h.resolve_right hn)]

/-- An entry above 15 is refused RANGE in every lane state (R50). -/
theorem changeoverLane_above {d : List Byte} {s : State} {l : Lane} (h : natAt d 2 ≠ 255) (h15 : 15 < natAt d 2) :
    changeoverLane d s l = refuseLane .refusedRange l s := by
  unfold changeoverLane
  simp only [entryByte_of_some h, entryOf, dif_neg (show ¬ natAt d 2 < 16 by omega)]

/-- A lane in IDLE or FAULT takes no changeover (R50). -/
theorem changeoverLane_of_rest {d : List Byte} {s : State} {l : Lane} {e : EntryNo} (he : natAt d 2 = e.val)
    (h : (s.lane l).state = .idle ∨ (s.lane l).state = .fault) : changeoverLane d s l = refuseLane .refusedState l s := by
  unfold changeoverLane
  simp only [entryByte_of_entry he, entryOf, he, dif_pos e.isLt]
  rcases h with h | h <;> rw [h]

/-- In RUN and DRAIN it is scheduled, in place of one that was pending (R50). -/
theorem changeoverLane_of_working {d : List Byte} {s : State} {l : Lane} {e : EntryNo} (he : natAt d 2 = e.val)
    (h : Working (s.lane l)) : changeoverLane d s l = takeLane .scheduled (s.lane l).changeover.isSome l
      (s.updLane l (fun r => { r with changeover := some ⟨e, word16 d 3⟩ })) := by
  unfold changeoverLane
  simp only [entryByte_of_entry he, entryOf, he, dif_pos e.isLt]
  rcases h with h | h <;> rw [h]

/-- CHANGEOVER of a lane with an entry given answers what its rule decides (R50). -/
theorem exec_laneChangeover_lane {f : Frame} {rest : List Frame} {s : State} {l : Lane} {a : Answer}
    (h : Serves s f rest .laneChangeover) (ho : LaneOperand f true true) (hl : natAt (serviceData f) 0 = l)
    (hn : natAt (serviceData f) 2 ≠ 255) (ha : changeoverLane (serviceData f) s l = a) (hb : a.state.buffer = s.buffer) :
    exec .laneChangeover s = .next (replied a.state f rest a.status a.data) :=
  exec_laneChangeover_addressed h
    ((decideLaneChangeover_of_entry s hn).trans ((laneCommand_lane f true true s _ l ho hl).trans ha)) hb

theorem entry_ne_none {d : List Byte} {e : EntryNo} (h : natAt d 2 = e.val) : natAt d 2 ≠ 255 := by have := e.isLt; omega

/-- Settles O49: the reply is a list of nine bytes; CHANGEOVER is decided by its entry and the lane's state, the flags by neither. -/
theorem changeoverAndFlags : Obligations.ChangeoverAndFlags := by
  refine ⟨fun s replaced l => ?_, fun f rest s c r hc h => ?_, fun f rest s h => ⟨fun hm => ?_, fun ho hn hl => ?_⟩,
    fun f rest s l hl => ⟨fun h ho => ⟨fun h15 hn => ?_, fun e he => ⟨fun hs => ?_, fun hs => ?_⟩⟩, fun ho => ?_⟩⟩
  · rw [laneReply_eq]
    refine ⟨rfl, rfl, byteOf_stateCode _, rfl, rfl, word16_bytes16 _, ?_, ?_, ?_, fun hg => ?_, rfl, rfl⟩
    · exact getLsbD_summaryFlags _ _ 0 le_rfl (by decide)
    · exact getLsbD_summaryFlags _ _ 1 le_rfl (by decide)
    · exact getLsbD_summaryFlags _ _ 2 le_rfl (by decide)
    · exact toNat_summaryFlags _ _ rfl hg
  · simp only [List.mem_cons, Prod.mk.injEq, List.not_mem_nil, or_false] at hc
    rcases hc with ⟨rfl, rfl⟩ | ⟨rfl, rfl⟩ | ⟨rfl, rfl⟩ | ⟨rfl, rfl⟩
    · exact ⟨serve_lane_malformed (fun _ => flagLane _) h, serve_lane_above (fun _ => flagLane _) h⟩
    · exact ⟨serve_lane_malformed (fun _ => flagLane _) h, serve_lane_above (fun _ => flagLane _) h⟩
    · exact ⟨serve_lane_malformed (fun _ => flagLane _) h, serve_lane_above (fun _ => flagLane _) h⟩
    · exact ⟨serve_lane_malformed (fun _ => flagLane _) h, serve_lane_above (fun _ => flagLane _) h⟩
  · exact exec_laneChangeover_addressed h (decideLaneChangeover_malformed s hm) rfl
  · exact exec_laneChangeover_addressed h
      ((decideLaneChangeover_of_entry s hn).trans (laneCommand_no_lane f true true s _ ho hl)) rfl
  · exact exec_laneChangeover_lane h ho hl hn (changeoverLane_above hn h15) rfl
  · exact exec_laneChangeover_lane h ho hl (entry_ne_none he) (changeoverLane_of_rest he hs) rfl
  · exact exec_laneChangeover_lane h ho hl (entry_ne_none he) (changeoverLane_of_working he hs) rfl
  · exact ⟨fun h => serve_lane (fun _ => flagLane _) h ho hl rfl rfl, fun h => serve_lane (fun _ => flagLane _) h ho hl rfl rfl,
      fun h => serve_lane (fun _ => flagLane _) h ho hl rfl rfl, fun h => serve_lane (fun _ => flagLane _) h ho hl rfl rfl⟩

end Sys2Proof.Proofs
end

section
/-! PROOFS. The recipe banks: every reference count is the number of tracked cards that name its entry, counted with the cards that are off
their lists and not freed yet, and what every operation on lanes, lists and records keeps of it (R27, R58, R62, R68, R125). -/

namespace Sys2Proof.Machine

open Sys2Proof.Safety

/-! ## Cards that name an entry -/

/-- How many of these cards name an entry by their recipe reference (R60). -/
def refsTo (b : Bank) (n : EntryNo) (cs : List Card) : Nat := cs.countP (fun c => c.bank = b && c.entry = n)

@[simp] theorem refsTo_nil (b : Bank) (n : EntryNo) : refsTo b n [] = 0 := rfl

theorem refsTo_cons (b : Bank) (n : EntryNo) (c : Card) (cs : List Card) :
    refsTo b n (c :: cs) = refsTo b n cs + if c.bank = b ∧ c.entry = n then 1 else 0 := by
  simp [refsTo, List.countP_cons]

@[simp] theorem refsTo_append (b : Bank) (n : EntryNo) (cs ds : List Card) : refsTo b n (cs ++ ds) = refsTo b n cs + refsTo b n ds :=
  List.countP_append

theorem refsTo_perm {cs ds : List Card} (h : cs.Perm ds) (b : Bank) (n : EntryNo) : refsTo b n cs = refsTo b n ds := h.countP_eq _

/-- A change of a card that keeps the entry it names. -/
def KeepsEntry (f : Card → Card) : Prop := ∀ c, (f c).bank = c.bank ∧ (f c).entry = c.entry

theorem refsTo_map {f : Card → Card} (h : KeepsEntry f) (b : Bank) (n : EntryNo) (cs : List Card) :
    refsTo b n (cs.map f) = refsTo b n cs := by
  unfold refsTo
  rw [List.countP_map]
  exact congrArg (fun p => List.countP p cs) (funext fun c => by simp [h c])

theorem refsTo_filter (b : Bank) (n : EntryNo) (p : Card → Bool) (cs : List Card) :
    refsTo b n (cs.filter (fun c => !p c)) + refsTo b n (cs.filter p) = refsTo b n cs := by
  rw [← refsTo_append]
  exact refsTo_perm (List.perm_append_comm.trans (List.filter_append_perm p cs)) b n

/-- The oldest entry of a lane, taken off the gate list (R121). -/
theorem refsTo_eraseP {l : Lane} {gate : List Card} {c : Card} {rest : List Card} (h : ofLane l gate = c :: rest) (b : Bank) (n : EntryNo) :
    refsTo b n (gate.eraseP (fun x => x.lane = l)) + refsTo b n [c] = refsTo b n gate := by
  obtain ⟨before, after, rfl, hbefore, hc, -⟩ := List.filter_eq_cons_iff.1 h
  rw [List.eraseP_append_right _ hbefore, List.eraseP_cons_of_pos (by exact hc), ← refsTo_append, List.append_assoc]
  exact refsTo_perm ((List.perm_append_singleton c after).append_left before) b n

/-- The cards of all the lists that name an entry: those of the gate list and of each lane's web list (R23, R62). -/
theorem references_eq (s : State) (b : Bank) (n : EntryNo) :
    references s b n = refsTo b n s.gate + ∑ l : Lane, refsTo b n (s.lane l).web := by
  show refsTo b n (s.gate ++ (List.finRange 6).flatMap (fun l => (s.lane l).web)) = _
  rw [refsTo_append]
  refine congrArg (refsTo b n s.gate + ·) ?_
  rw [refsTo, List.countP_flatMap, ← List.ofFn_eq_map, List.sum_ofFn]
  rfl

theorem references_congr {s t : State} (hg : t.gate = s.gate) (hw : ∀ l, (t.lane l).web = (s.lane l).web) (b : Bank) (n : EntryNo) :
    references t b n = references s b n := by simp only [references_eq, hg, hw]

theorem references_withGate (s : State) (gate : List Card) (b : Bank) (n : EntryNo) :
    references (s.withGate gate) b n + refsTo b n s.gate = references s b n + refsTo b n gate := by
  simp only [references_eq, State.withGate_gate, State.lane_withGate]
  omega

theorem references_setLane (s : State) (l : Lane) (r : LaneRec) (b : Bank) (n : EntryNo) :
    references (s.setLane l r) b n + refsTo b n (s.lane l).web = references s b n + refsTo b n r.web := by
  have hothers : ∑ m ∈ Finset.univ.erase l, refsTo b n ((s.setLane l r).lane m).web =
      ∑ m ∈ Finset.univ.erase l, refsTo b n (s.lane m).web :=
    Finset.sum_congr rfl (fun m hm => by rw [s.lane_setLane_ne r (Finset.ne_of_mem_erase hm).symm])
  have hafter := Finset.add_sum_erase Finset.univ (fun m => refsTo b n ((s.setLane l r).lane m).web) (Finset.mem_univ l)
  have hbefore := Finset.add_sum_erase Finset.univ (fun m => refsTo b n (s.lane m).web) (Finset.mem_univ l)
  simp only [State.lane_setLane_self] at hafter
  rw [references_eq, references_eq, ← hafter, ← hbefore, hothers, State.setLane_gate]
  omega

theorem refsTo_pos {c : Card} {cs : List Card} (h : c ∈ cs) : 0 < refsTo c.bank c.entry cs :=
  List.countP_pos_iff.2 ⟨c, h, by simp⟩

/-- A card on a web list is counted. -/
theorem references_pos {s : State} {l : Lane} {c : Card} (h : c ∈ (s.lane l).web) : 0 < references s c.bank c.entry :=
  refsTo_pos (cs := s.inUse) ((s.mem_inUse c).2 (.inr ⟨l, h⟩))

/-! ## Recipes held -/

/-- An open batch holds at least one card and fewer than its size (R125). -/
def LaneRec.BatchFits (r : LaneRec) : Prop := ∀ b ∈ r.openBatch, 1 ≤ b.count ∧ b.count < b.size

/-- The laws of the recipe banks while the cards `hand` are off their lists and not freed yet (R27): the reference counts are exact, the
entries sound, the entries of the lanes in RUN and DRAIN VALID in the active bank, and the open batches below their size. -/
structure RecipesHeld (hand : List Card) (s : State) : Prop where
  refs : ∀ b n, (s.entry b n).refs = references s b n + refsTo b n hand
  entry : ∀ b n, EntrySound (s.entry b n)
  assigned : ∀ l, Working (s.lane l) → (s.entry s.active (s.lane l).assigned).valid = true
  batch : ∀ l, (s.lane l).BatchFits

/-- With no card in hand these are the laws of the statement. -/
theorem recipesHeld_iff (s : State) : RecipesHeld [] s ↔ RefsSound s ∧ RecipesSound s ∧ BatchSound s := by
  constructor
  · rintro ⟨hrefs, hentry, hassigned, hbatch⟩
    exact ⟨fun n => ⟨hrefs .A n, hrefs .B n⟩, ⟨fun n => ⟨hentry .A n, hentry .B n⟩, hassigned⟩, hbatch⟩
  · rintro ⟨hrefs, ⟨hentry, hassigned⟩, hbatch⟩
    refine ⟨fun b n => ?_, fun b n => ?_, hassigned, hbatch⟩
    · cases b
      · exact (hrefs n).1
      · exact (hrefs n).2
    · cases b
      · exact (hentry n).1
      · exact (hentry n).2

/-- The laws are read off the banks, the active bank, the gate list and the lane records alone; where the active bank is another, the lanes in
RUN and DRAIN need their entries VALID there. -/
theorem RecipesHeld.of_lists {hand : List Card} {s t : State} (hs : RecipesHeld hand s) (hA : t.bankA = s.bankA) (hB : t.bankB = s.bankB)
    (hg : t.gate = s.gate) (hl : ∀ l, t.lane l = s.lane l)
    (ha : ∀ l, Working (s.lane l) → (s.entry t.active (s.lane l).assigned).valid = true) : RecipesHeld hand t := by
  have he : ∀ b n, t.entry b n = s.entry b n := fun b n => by cases b <;> simp only [State.entry, hA, hB]
  refine ⟨fun b n => ?_, fun b n => ?_, fun l => ?_, fun l => ?_⟩
  · rw [he, hs.refs, references_congr hg (fun l => by rw [hl])]
  · rw [he]; exact hs.entry b n
  · rw [hl, he]; exact ha l
  · rw [hl]; exact hs.batch l

theorem RecipesHeld.of_same {hand : List Card} {s t : State} (hs : RecipesHeld hand s) (hA : t.bankA = s.bankA) (hB : t.bankB = s.bankB)
    (ha : t.active = s.active) (hg : t.gate = s.gate) (hl : ∀ l, t.lane l = s.lane l) : RecipesHeld hand t :=
  hs.of_lists hA hB hg hl (fun l hw => by rw [ha]; exact hs.assigned l hw)

/-- A tracked card names a VALID entry, whose recipe is in range (R58, R62). -/
theorem RecipesHeld.recipe_inRange {s : State} (hs : RecipesHeld [] s) {l : Lane} {c : Card} (hc : c ∈ (s.lane l).web) :
    (s.recipeOf c).inRange = true := by
  have hpos : 0 < (s.entry c.bank c.entry).refs := by rw [hs.refs]; exact references_pos hc
  obtain ⟨hrange, hvalid⟩ := hs.entry c.bank c.entry
  obtain ⟨r, hr⟩ := Option.isSome_iff_exists.1 (hvalid hpos)
  rw [State.recipeOf, Entry.fields, hr]
  exact hrange r hr

/-! ## Lane records -/

/-- A lane record is replaced; the cards that leave its web list are in hand. -/
theorem RecipesHeld.setLane {hand hand' : List Card} {s : State} (hs : RecipesHeld hand s) (l : Lane) (r : LaneRec)
    (hrefs : ∀ b n, refsTo b n r.web + refsTo b n hand' = refsTo b n (s.lane l).web + refsTo b n hand)
    (ha : Working r → (s.entry s.active r.assigned).valid = true) (hb : r.BatchFits) : RecipesHeld hand' (s.setLane l r) where
  refs b n := by
    have hsum := references_setLane s l r b n
    have hsame := hs.refs b n
    have hmoved := hrefs b n
    rw [State.entry_setLane]
    omega
  entry b n := by rw [State.entry_setLane]; exact hs.entry b n
  assigned m := by
    rw [State.lane_setLane, State.entry_setLane]
    split
    · exact ha
    · exact hs.assigned m
  batch m := by
    rw [State.lane_setLane]
    split
    · exact hb
    · exact hs.batch m

/-- A lane record keeps its open batch, and its assigned entry where it stays in RUN or DRAIN. -/
def LaneRec.Steady (r q : LaneRec) : Prop := q.openBatch = r.openBatch ∧ (Working q → Working r ∧ q.assigned = r.assigned)

theorem LaneRec.Steady.of_same {r q : LaneRec} (hb : q.openBatch = r.openBatch) (hs : q.state = r.state) (ha : q.assigned = r.assigned) :
    r.Steady q := ⟨hb, fun h => ⟨by rwa [Working, ← hs], ha⟩⟩

theorem LaneRec.steady_enterFault (r : LaneRec) : r.Steady r.enterFault := by
  rw [LaneRec.enterFault_eq]
  split
  · exact ⟨rfl, fun h => by simp [Working] at h⟩
  · exact .of_same rfl rfl rfl

/-- A steady change of a lane's record, with the cards that leave its web list in hand. -/
theorem RecipesHeld.setLane_steady {hand hand' : List Card} {s : State} (hs : RecipesHeld hand s) (l : Lane) {r : LaneRec}
    (hr : (s.lane l).Steady r) (hrefs : ∀ b n, refsTo b n r.web + refsTo b n hand' = refsTo b n (s.lane l).web + refsTo b n hand) :
    RecipesHeld hand' (s.setLane l r) := by
  obtain ⟨hbatch, hassigned⟩ := hr
  refine hs.setLane l r hrefs (fun hw => ?_) (fun b hb => hs.batch l b (hbatch ▸ hb))
  obtain ⟨hw', ha⟩ := hassigned hw
  rw [ha]
  exact hs.assigned l hw'

/-- A steady change of a lane's record that leaves its web list. -/
theorem RecipesHeld.updLane {hand : List Card} {s : State} (hs : RecipesHeld hand s) (l : Lane) {f : LaneRec → LaneRec}
    (hf : ∀ r : LaneRec, r.Steady (f r)) (hw : ∀ r, (f r).web = r.web) : RecipesHeld hand (s.updLane l f) :=
  hs.setLane_steady l (hf _) (fun b n => by rw [hw])

/-- A change of a lane's record that none of the laws reads. -/
theorem RecipesHeld.updLane_same {hand : List Card} {s : State} (hs : RecipesHeld hand s) (l : Lane) {f : LaneRec → LaneRec}
    (hw : ∀ r, (f r).web = r.web) (hb : ∀ r, (f r).openBatch = r.openBatch) (hst : ∀ r, (f r).state = r.state)
    (ha : ∀ r, (f r).assigned = r.assigned) : RecipesHeld hand (s.updLane l f) :=
  hs.updLane l (fun r => .of_same (hb r) (hst r) (ha r)) hw

theorem RecipesHeld.latchLane {hand : List Card} {s : State} (hs : RecipesHeld hand s) (l : Lane) (a : LaneAlarm) (d : List Byte) :
    RecipesHeld hand (s.latchLane l a d) := by
  have h := hs.updLane_same l (f := fun r => { r with alarms := r.alarms.set a.place ((s.lane l).alarms[a.place].set d) })
    (fun _ => rfl) (fun _ => rfl) (fun _ => rfl) (fun _ => rfl)
  exact h.of_same rfl rfl rfl rfl (fun _ => rfl)

theorem RecipesHeld.latchChip {hand : List Card} {s : State} (hs : RecipesHeld hand s) (a : ChipAlarm) (d : List Byte) :
    RecipesHeld hand (s.latchChip a d) := hs.of_same rfl rfl rfl rfl (fun _ => rfl)

/-- Cards of a web list are changed in all but the entry they name. -/
theorem RecipesHeld.mapWeb {hand : List Card} {s : State} (hs : RecipesHeld hand s) (l : Lane) {f : Card → Card} (hf : KeepsEntry f) :
    RecipesHeld hand (s.mapWeb l f) :=
  hs.setLane_steady l (.of_same rfl rfl rfl) (fun b n => congrArg (· + refsTo b n hand) (refsTo_map hf b n _))

theorem RecipesHeld.updCard {hand : List Card} {s : State} (hs : RecipesHeld hand s) (l : Lane) (i : Index) {f : Card → Card}
    (hf : KeepsEntry f) : RecipesHeld hand (s.updCard l i f) :=
  hs.mapWeb l (fun c => by
    split
    · exact hf c
    · exact ⟨rfl, rfl⟩)

/-! ## The gate list and the records -/

/-- The gate list is replaced; the cards that leave it come to hand, those that join it leave the hand. -/
theorem RecipesHeld.withGate {hand hand' : List Card} {s : State} (hs : RecipesHeld hand s) (gate : List Card)
    (hrefs : ∀ b n, refsTo b n gate + refsTo b n hand' = refsTo b n s.gate + refsTo b n hand) : RecipesHeld hand' (s.withGate gate) where
  refs b n := by
    have hsum := references_withGate s gate b n
    have hsame := hs.refs b n
    have hmoved := hrefs b n
    rw [State.entry_withGate]
    omega
  entry b n := by rw [State.entry_withGate]; exact hs.entry b n
  assigned l := by rw [State.entry_withGate]; exact hs.assigned l
  batch := hs.batch

/-- A card in hand is freed: its entry counts one less (R27). -/
theorem RecipesHeld.freeRecord {c : Card} {hand : List Card} {s : State} (hs : RecipesHeld (c :: hand) s) :
    RecipesHeld hand (s.freeRecord c) := by
  have hrecipe : ∀ b n, ((s.freeRecord c).entry b n).recipe = (s.entry b n).recipe := fun b n => by
    rw [State.entry_freeRecord]
    split <;> rfl
  refine ⟨fun b n => ?_, fun b n => ⟨fun r hr => (hs.entry b n).1 r (hrecipe b n ▸ hr), fun hpos => ?_⟩, fun l hw => ?_, fun l => ?_⟩
  · have hcounted := hs.refs b n
    rw [refsTo_cons] at hcounted
    rw [State.entry_freeRecord, references_congr (s.freeRecord_gate c) (fun l => by rw [State.lane_freeRecord])]
    split
    · next h => simp only [h, and_self, if_true] at hcounted ⊢; omega
    · next h => simpa only [h, if_false, Nat.add_zero] using hcounted
  · rw [Entry.valid, hrecipe]
    refine (hs.entry b n).2 (Nat.lt_of_lt_of_le hpos ?_)
    rw [State.entry_freeRecord]
    split
    · exact Nat.sub_le ..
    · exact le_rfl
  · rw [State.lane_freeRecord] at hw ⊢
    rw [Entry.valid, hrecipe, State.freeRecord_active]
    exact hs.assigned l hw
  · rw [State.lane_freeRecord]
    exact hs.batch l

/-- Cards in hand are counted in their lanes and freed one after another (R27). -/
theorem RecipesHeld.release {cs hand : List Card} {s : State} (hs : RecipesHeld (cs ++ hand) s) (place : Card → Lane)
    {count : Card → LaneRec → LaneRec} (hcount : ∀ c (r : LaneRec), r.Steady (count c r)) (hw : ∀ c r, (count c r).web = r.web) :
    RecipesHeld hand (s.release place count cs) := by
  induction cs generalizing s with
  | nil => exact hs
  | cons c cs ih => exact ih (hs.updLane (place c) (hcount c) (hw c)).freeRecord

/-- A card of a VALID entry comes to hand: its entry counts one more (R29). -/
theorem RecipesHeld.countRef {hand : List Card} {s : State} (hs : RecipesHeld hand s) {c : Card}
    (hv : (s.entry c.bank c.entry).valid = true) : RecipesHeld (c :: hand) (s.updRefs c.bank c.entry (· + 1)) := by
  have hrecipe : ∀ b n, ((s.updRefs c.bank c.entry (· + 1)).entry b n).recipe = (s.entry b n).recipe := fun b n => by
    rw [State.entry_updRefs]
    split <;> rfl
  refine ⟨fun b n => ?_, fun b n => ⟨fun r hr => (hs.entry b n).1 r (hrecipe b n ▸ hr), fun hpos => ?_⟩, fun l hw => ?_, fun l => ?_⟩
  · rw [State.entry_updRefs, references_congr (s.updRefs_gate ..) (fun l => by rw [State.lane_updRefs]), refsTo_cons, ← Nat.add_assoc,
      ← hs.refs]
    split <;> rfl
  · rw [Entry.valid, hrecipe]
    rw [State.entry_updRefs] at hpos
    split at hpos
    · next h => obtain ⟨rfl, rfl⟩ := h; exact hv
    · exact (hs.entry b n).2 hpos
  · rw [State.lane_updRefs] at hw ⊢
    rw [Entry.valid, hrecipe, State.updRefs_active]
    exact hs.assigned l hw
  · rw [State.lane_updRefs]
    exact hs.batch l

/-! ## Cards counted -/

theorem LaneRec.steady_countRejected (c : Card) (r : LaneRec) : r.Steady (r.countRejected c) := .of_same (by simp) (by simp) (by simp)

theorem LaneRec.steady_countExpired (c : Card) (r : LaneRec) : r.Steady (r.countExpired c) := r.steady_countRejected c

theorem LaneRec.steady_countUnverified (c : Card) (r : LaneRec) : r.Steady (r.countUnverified c) := r.steady_countRejected c

/-- Cards are taken off the gate list, counted and freed (R26, R28). -/
theorem RecipesHeld.removeGate {s : State} (hs : RecipesHeld [] s) (p : Card → Bool) {count : Card → LaneRec → LaneRec}
    (hcount : ∀ c (r : LaneRec), r.Steady (count c r)) (hw : ∀ c r, (count c r).web = r.web) : RecipesHeld [] (s.removeGate p count) := by
  rw [State.removeGate_eq]
  exact RecipesHeld.release (cs := s.gate.filter p) (hand := [])
    (hs.withGate _ (fun b n => by simpa using refsTo_filter b n p s.gate)) _ hcount hw

/-- The cards at the head of a web list are taken off it, counted and freed (R136, R139). -/
theorem RecipesHeld.releaseWeb {s : State} (hs : RecipesHeld [] s) (l : Lane) {cs rest : List Card} (h : (s.lane l).web = cs ++ rest)
    {count : Card → LaneRec → LaneRec} (hcount : ∀ c (r : LaneRec), r.Steady (count c r)) (hw : ∀ c r, (count c r).web = r.web) :
    RecipesHeld [] ((s.updLane l (fun r => { r with web := rest })).release (fun _ => l) count cs) := by
  refine RecipesHeld.release (cs := cs) (hand := []) 
    (hs.setLane_steady l (r := { s.lane l with web := rest }) (.of_same rfl rfl rfl) (fun b n => ?_)) _ hcount hw
  simp [h, Nat.add_comm]

end Sys2Proof.Machine
end

section
/-! PROOFS. The stages of the pitch step, the ends of conversions and the continuity handling keep the recipe banks (R29, R32, R46, R51, R55, R62,
R68, R121, R123, R125, R127, R135, R136, R139, R140). -/

namespace Sys2Proof.Machine

open Sys2Proof.Safety

/-! ## Cards marked -/

theorem keepsEntry_addReason (r : Reason) : KeepsEntry (Card.addReason r) := fun c => ⟨by simp, by simp⟩

/-- An accepted report writes into the card and adds reasons (R78 to R81). -/
theorem keepsEntry_accept (kind : Kind) (r : Recipe) (payload : List Byte) : KeepsEntry (Card.accept kind r payload) := by
  intro c
  cases kind with
  | load => exact ⟨by simp [Card.accept, Card.acceptLoad], by simp [Card.accept, Card.acceptLoad]⟩
  | inspect => exact ⟨by simp [Card.accept, Card.acceptInspect], by simp [Card.accept, Card.acceptInspect]⟩
  | card => exact ⟨by simp [Card.accept, Card.acceptCard], by simp [Card.accept, Card.acceptCard]⟩
  | sealing =>
    show (c.acceptSeal r payload).bank = c.bank ∧ (c.acceptSeal r payload).entry = c.entry
    unfold Card.acceptSeal
    split
    · exact ⟨rfl, rfl⟩
    · simp only
      split
      · exact ⟨by simp, by simp⟩
      · exact ⟨by simp, by simp⟩
  | gate => exact ⟨rfl, rfl⟩
  | stack => exact ⟨rfl, rfl⟩

/-- A planned command is noted in the card, a seal calculation with its reason (R86, R99). -/
theorem keepsEntry_planFor (s : State) (l : Lane) (kind : Kind) : KeepsEntry (fun c => (s.planFor l kind c).2) := by
  have hseal : ∀ r m pitch zs z, KeepsEntry (fun c => (planSeal r m pitch zs z c).2) := by
    intro r m pitch zs z c
    by_cases h : c.reasons = [] ∧ c.placed = some true
    · simp only [planSeal_of_due r m pitch zs z h.1 h.2]
      split <;> exact ⟨rfl, rfl⟩
    · simp only [planSeal_of_not_due r m pitch zs z h, and_self]
  intro c
  cases kind <;> simp only [State.planFor]
  · unfold planLoad; split <;> exact ⟨rfl, rfl⟩
  · unfold planInspect; split <;> exact ⟨rfl, rfl⟩
  · unfold planCard; split <;> exact ⟨rfl, rfl⟩
  all_goals exact hseal _ _ _ _ _ c

/-! ## Stages 1, 2, 3 and 6 -/

theorem RecipesHeld.applyReport {s : State} (hs : RecipesHeld [] s) (f : Frame) (l : Lane) (k : Index) (kind : Kind) :
    RecipesHeld [] (s.applyReport f l k kind) := by
  unfold State.applyReport
  split
  · exact hs
  · refine RecipesHeld.updLane_same (hs.updCard l _ (fun c => ?_)) l (fun _ => rfl) (fun _ => rfl) (fun _ => rfl) (fun _ => rfl)
    split
    · exact keepsEntry_accept _ _ _ c
    · exact keepsEntry_addReason _ c

/-- The oldest gate entries of a lane are confirmed: each leaves the gate list and is freed (R121). -/
theorem RecipesHeld.confirm (l : Lane) (n : Nat) {s : State} (hs : RecipesHeld [] s) : RecipesHeld [] (s.confirm l n) := by
  induction n generalizing s with
  | zero => exact hs
  | succ n ih =>
    cases hc : s.gateOf l with
    | nil => rwa [State.confirm, hc]
    | cons c rest =>
      rw [State.confirm_succ hc, ← State.freeRecord_withGate]
      refine ih (RecipesHeld.freeRecord ?_)
      exact (hs.updLane l (LaneRec.steady_countRejected c) (by simp)).withGate _ (fun b n => by simpa using refsTo_eraseP hc b n)

theorem RecipesHeld.applyGateCount {s : State} (hs : RecipesHeld [] s) (l : Lane) (k : Index) (n : Nat) :
    RecipesHeld [] (s.applyGateCount l k n) := by
  unfold State.applyGateCount
  have h := hs.confirm l (min n (s.gateOf l).length)
  simp only
  split
  · have hb := h.updLane_same l (f := LaneRec.bump 19 (n - (s.gateOf l).length)) (fun _ => rfl) (fun _ => rfl) (fun _ => rfl) (fun _ => rfl)
    split
    · exact hb
    · exact hb.latchLane l _ _
  · exact h

theorem RecipesHeld.evalStationLost {s : State} (hs : RecipesHeld [] s) (l : Lane) : RecipesHeld [] (s.evalStationLost l) := by
  have h : ∀ now : Bool, RecipesHeld [] (s.updLane l (fun r => { r with stationLost := now })) := fun now =>
    hs.updLane_same l (fun _ => rfl) (fun _ => rfl) (fun _ => rfl) (fun _ => rfl)
  unfold State.evalStationLost
  simp only
  split
  · refine ((h _).latchLane l _ _).updLane l (fun r => ?_) (fun r => ?_)
    · split
      · exact r.steady_enterFault
      · exact .of_same rfl rfl rfl
    · split
      · exact r.enterFault_web
      · rfl
  · exact h _

theorem RecipesHeld.stage1 {s : State} (hs : RecipesHeld [] s) (f : Frame) (k : Index) (applies : Bool) (l : Lane) :
    RecipesHeld [] (stage1 f k applies l s) := by
  unfold Machine.stage1
  split
  · exact hs
  · simp only
    split
    · refine RecipesHeld.evalStationLost (RecipesHeld.applyGateCount ?_ l k _) l
      exact foldl_keeps (RecipesHeld []) _ _ s hs (fun t kind _ ht => ht.applyReport f l k kind)
    · exact hs.evalStationLost l

theorem RecipesHeld.stage2 {s : State} (hs : RecipesHeld [] s) (k : Index) (l : Lane) : RecipesHeld [] (stage2 k l s) := by
  unfold Machine.stage2
  split
  · exact hs
  · simp only
    split
    · exact hs
    · exact (hs.removeGate _ LaneRec.steady_countExpired (by simp [LaneRec.countExpired])).latchLane l _ _

/-- A changeover is taken to an entry that is VALID in the active bank (R51). -/
theorem RecipesHeld.takeChangeover {s : State} (hs : RecipesHeld [] s) (k : Index) (l : Lane) : RecipesHeld [] (s.takeChangeover k l) := by
  unfold State.takeChangeover
  split
  · exact hs
  · split
    · split
      · next hv => exact hs.setLane l _ (fun _ _ => rfl) (fun _ => hv) (hs.batch l)
      · exact (hs.updLane_same l (f := fun r => { r with changeover := none }) (fun _ => rfl) (fun _ => rfl) (fun _ => rfl)
          (fun _ => rfl)).latchLane l _ _
    · exact hs

theorem RecipesHeld.stage3 {s : State} (hs : RecipesHeld [] s) (k : Index) (l : Lane) : RecipesHeld [] (stage3 k l s) := by
  unfold Machine.stage3
  split
  · exact hs.mapWeb l (keepsEntry_addReason _)
  · exact hs.takeChangeover k l
  · exact hs.takeChangeover k l
  · exact hs

theorem RecipesHeld.stage6 {s : State} (hs : RecipesHeld [] s) (k : Index) (l : Lane) : RecipesHeld [] (stage6 k l s) := by
  refine foldl_keeps (RecipesHeld []) _ _ s hs (fun t kind _ ht => ?_)
  unfold State.planStation
  split
  · exact ht
  · exact RecipesHeld.updLane_same (ht.updCard l _ (keepsEntry_planFor t l kind)) l (fun _ => rfl) (fun _ => rfl) (fun _ => rfl) (fun _ => rfl)

/-! ## Stage 4 -/

/-- The batch that a passed card joins: the lane's open batch of its SKU, or a new one (R125). -/
def LaneRec.batchFor (c : Card) (recipe : Recipe) (r : LaneRec) : Batch :=
  match r.openBatch with
  | some b => if b.sku = c.sku then b else ⟨c.sku, recipe.batchSize, recipe.closeMode, r.lastBatch + 1, 0⟩
  | none => ⟨c.sku, recipe.batchSize, recipe.closeMode, r.lastBatch + 1, 0⟩

/-- A passed card leaves the batch it joins open with one card more, or closes it at its size (R125). -/
theorem LaneRec.openBatch_passEvents (c : Card) (recipe : Recipe) (r : LaneRec) :
    (r.passEvents c recipe).1.openBatch =
      if (r.batchFor c recipe).count + 1 = (r.batchFor c recipe).size then none
      else some { r.batchFor c recipe with count := (r.batchFor c recipe).count + 1 } := by
  unfold LaneRec.passEvents LaneRec.batchFor
  cases hb : r.openBatch with
  | none => simp only [hb]; split <;> rfl
  | some b =>
    by_cases hs : b.sku = c.sku
    · simp only [if_pos hs, hb]; split <;> rfl
    · simp only [if_neg hs, LaneRec.bump_openBatch]; split <;> rfl

/-- A batch has room for the card that joins it. -/
theorem LaneRec.BatchFits.batchFor {r : LaneRec} (hr : r.BatchFits) (c : Card) {recipe : Recipe} (h : 1 ≤ recipe.batchSize) :
    (r.batchFor c recipe).count < (r.batchFor c recipe).size := by
  unfold LaneRec.batchFor
  split
  · next b hb =>
    split
    · exact (hr b hb).2
    · exact h
  · exact h

theorem LaneRec.BatchFits.passEvents {r : LaneRec} (hr : r.BatchFits) (c : Card) {recipe : Recipe} (h : 1 ≤ recipe.batchSize) :
    (r.passEvents c recipe).1.BatchFits := by
  have hroom := hr.batchFor c h
  unfold LaneRec.BatchFits
  rw [LaneRec.openBatch_passEvents]
  split
  · rintro b ⟨⟩
  · rintro b ⟨⟩
    exact ⟨Nat.le_add_left .., by dsimp only; omega⟩

@[simp] theorem LaneRec.passEvents_web (c : Card) (recipe : Recipe) (r : LaneRec) : (r.passEvents c recipe).1.web = r.web := by
  rw [LaneRec.passEvents_eq]
@[simp] theorem LaneRec.passEvents_state (c : Card) (recipe : Recipe) (r : LaneRec) : (r.passEvents c recipe).1.state = r.state := by
  rw [LaneRec.passEvents_eq]
@[simp] theorem LaneRec.passEvents_assigned (c : Card) (recipe : Recipe) (r : LaneRec) :
    (r.passEvents c recipe).1.assigned = r.assigned := by rw [LaneRec.passEvents_eq]

/-- A card is passed: it leaves its web list, and its record is freed (R119). -/
theorem RecipesHeld.passAtPunch {s : State} (hs : RecipesHeld [] s) (l : Lane) {c : Card} {rest : List Card}
    (hw : (s.lane l).web = c :: rest) : RecipesHeld [] (s.passAtPunch l c).1 := by
  have hrange := hs.recipe_inRange (l := l) (c := c) (by rw [hw]; exact List.mem_cons_self ..)
  have hsize : 1 ≤ (s.recipeOf c).batchSize := by
    simp only [Recipe.inRange, Bool.and_eq_true, decide_eq_true_eq] at hrange
    exact hrange.1.2
  unfold State.passAtPunch
  refine RecipesHeld.freeRecord (hs.setLane l _ (fun b n => ?_) (fun hwork => ?_) (LaneRec.BatchFits.passEvents (hs.batch l) c hsize))
  · simp [LaneRec.planGate, hw, refsTo_cons]
  · simp only [LaneRec.planGate, Working, LaneRec.bump_state, LaneRec.bump_assigned, LaneRec.passEvents_state,
      LaneRec.passEvents_assigned] at hwork ⊢
    exact hs.assigned l hwork

/-- A card is rejected: it leaves its web list for the gate list (R118). -/
theorem RecipesHeld.rejectAtPunch {s : State} (hs : RecipesHeld [] s) (k : Index) (l : Lane) {c : Card} {rest : List Card}
    (hw : (s.lane l).web = c :: rest) : RecipesHeld [] (s.rejectAtPunch k l c) := by
  unfold State.rejectAtPunch
  have hhand := hs.setLane_steady (hand' := [c]) l
    (r := LaneRec.planGate true (c.addReasonIf (s.lane l).force .forced).serial (c.addReasonIf (s.lane l).force .forced).firstReason
      { s.lane l with web := (s.lane l).web.tail }) (.of_same rfl rfl rfl) (fun b n => by simp [LaneRec.planGate, hw, refsTo_cons])
  exact hhand.withGate (hand' := []) (s.gate ++ [{ c.addReasonIf (s.lane l).force .forced with gateIndex := some k }])
    (fun b n => by simp [refsTo_cons])

theorem RecipesHeld.punch {s : State} (hs : RecipesHeld [] s) (k : Index) (l : Lane) : RecipesHeld [] (s.punch k l).1 := by
  unfold State.punch
  split
  · dsimp only
    exact hs.updLane_same l (fun _ => rfl) (fun _ => rfl) (fun _ => rfl) (fun _ => rfl)
  · have hanswered : RecipesHeld [] (s.updLane l (fun r => { r with blindAnswer := false })) :=
      hs.updLane_same l (fun _ => rfl) (fun _ => rfl) (fun _ => rfl) (fun _ => rfl)
    simp only
    split
    · exact hanswered
    · next c rest hw =>
      split
      · split
        · exact hanswered.passAtPunch l hw
        · exact hanswered.rejectAtPunch k l hw
      · exact hanswered

theorem RecipesHeld.stage4 {s : State} (hs : RecipesHeld [] s) (k : Index) (l : Lane) : RecipesHeld [] (stage4 k l s) := by
  unfold Machine.stage4
  exact (hs.punch k l).updLane_same l (fun _ => rfl) (fun _ => rfl) (fun _ => rfl) (fun _ => rfl)

/-! ## Stages 5 and 7 -/

/-- A reference count and a lane record are changed in either order. -/
theorem State.updRefs_updLane (s : State) (l : Lane) (f : LaneRec → LaneRec) (b : Bank) (n : EntryNo) (g : Nat → Nat) :
    (s.updLane l f).updRefs b n g = (s.updRefs b n g).updLane l f := by cases b <;> rfl

/-- A lane in RUN creates a card of its assigned entry, which is VALID in the active bank (R29). -/
theorem RecipesHeld.stage5 {s : State} (hs : RecipesHeld [] s) (k : Index) (l : Lane) : RecipesHeld [] (stage5 k l s) := by
  unfold Machine.stage5
  split
  · next hrun =>
    cases hfree : s.free with
    | nil => rwa [State.createCard, hfree]
    | cons n rest =>
      have htaken : RecipesHeld [] { s with free := rest, serial := s.serial + 1 } := hs.of_same rfl rfl rfl rfl (fun _ => rfl)
      have hcounted := htaken.countRef (c := Proofs.newCard s l k n) (hs.assigned l (.inl hrun))
      rw [Proofs.createCard_of_free hfree, Proofs.webCard, State.updRefs_updLane]
      exact hcounted.setLane_steady l (.of_same rfl rfl rfl) (fun b m => by simp)
  · exact hs

/-- The run-end close leaves the open batch or closes it (R127). -/
theorem LaneRec.BatchFits.runEndClose {r : LaneRec} (hr : r.BatchFits) (mode : Option CloseMode) (full : Bool) :
    (r.runEndClose mode full).1.BatchFits := by
  have hclosed : LaneRec.BatchFits (({ r with openBatch := none } : LaneRec).bump 20 1) := by rintro b ⟨⟩
  unfold LaneRec.runEndClose
  split
  · split
    · exact hr
    · exact hclosed
    · exact hclosed
  · split <;> exact hr

@[simp] theorem LaneRec.runEndClose_web (mode : Option CloseMode) (full : Bool) (r : LaneRec) :
    (r.runEndClose mode full).1.web = r.web := by rw [LaneRec.runEndClose_eq]
@[simp] theorem LaneRec.runEndClose_state (mode : Option CloseMode) (full : Bool) (r : LaneRec) :
    (r.runEndClose mode full).1.state = r.state := by rw [LaneRec.runEndClose_eq]

/-- A lane enters IDLE with its run-end close, and needs no entry there (R43, R48). -/
theorem RecipesHeld.close {s : State} (hs : RecipesHeld [] s) (l : Lane) (mode : Option CloseMode) (full : Bool)
    (f : LaneRec → LaneRec) (hw : ∀ r, (f r).web = r.web) (hst : ∀ r, (f r).state = r.state) (hb : ∀ r, (f r).openBatch = r.openBatch) :
    RecipesHeld [] (s.setLane l (f ((s.lane l).enterIdle.runEndClose mode full).1)) := by
  refine hs.setLane l _ (fun b n => ?_) (fun hwork => ?_) ?_
  · rw [hw, LaneRec.runEndClose_web]
    rfl
  · simp [Working, hst, LaneRec.enterIdle] at hwork
  · unfold LaneRec.BatchFits
    rw [hb]
    exact LaneRec.BatchFits.runEndClose (r := (s.lane l).enterIdle) (hs.batch l) mode full

theorem RecipesHeld.stage7 {s : State} (hs : RecipesHeld [] s) (l : Lane) : RecipesHeld [] (stage7 l s) := by
  unfold Machine.stage7
  simp only
  split
  · exact hs.close l _ _ (fun r => { r with plan := _ }) (fun _ => rfl) (fun _ => rfl) (fun _ => rfl)
  · exact hs

theorem RecipesHeld.faultAfterStep {s : State} (hs : RecipesHeld [] s) (l : Lane) : RecipesHeld [] (s.faultAfterStep l) := by
  refine hs.updLane l (fun r => ?_) (fun r => ?_)
  · split
    · exact r.steady_enterFault
    · exact .of_same rfl rfl rfl
  · split
    · exact r.enterFault_web
    · rfl

/-! ## The pitch steps -/

theorem RecipesHeld.runStage {s : State} (hs : RecipesHeld [] s) (x : StepCtx) (n : Nat) (l : Lane) : RecipesHeld [] (runStage x n l s) := by
  unfold Machine.runStage
  split
  · exact hs.stage1 _ _ _ l
  · exact hs.stage2 _ l
  · exact hs.stage3 _ l
  · exact hs.stage4 _ l
  · exact hs.stage5 _ l
  · exact hs.stage6 _ l
  · exact (hs.stage7 l).faultAfterStep l
  · exact hs

theorem RecipesHeld.zoneFaultBegins {s : State} (hs : RecipesHeld [] s) (l : Lane) (inStep : Bool) :
    RecipesHeld [] (s.zoneFaultBegins l inStep) := by
  rw [State.zoneFaultBegins_eq]
  cases inStep with
  | true => exact (hs.latchLane l _ _).updLane_same l (fun _ => rfl) (fun _ => rfl) (fun _ => rfl) (fun _ => rfl)
  | false => exact (hs.latchLane l _ _).updLane l LaneRec.steady_enterFault LaneRec.enterFault_web

/-- The end of a conversion at most takes a lane to FAULT (R46, R115). -/
theorem RecipesHeld.convert {s : State} (hs : RecipesHeld [] s) (raw : RawCode) (inStep : Lane → Bool) :
    RecipesHeld [] (s.convert raw inStep) := by
  have hzone : ∀ z, RecipesHeld [] (s.setZone s.conv.zone z) := fun z =>
    hs.of_same rfl rfl rfl rfl (fun _ => rfl)
  have hbegin : ∀ {u : State} m, RecipesHeld [] u → RecipesHeld [] (u.beginConversion m) := fun m hu =>
    hu.of_same rfl rfl rfl rfl (fun _ => rfl)
  by_cases h : s.Faults raw
  · rw [State.convert_of_faults h]
    exact hbegin _ ((hzone _).zoneFaultBegins _ _)
  · rw [State.convert_of_not h]
    exact hbegin _ (hzone _)

theorem RecipesHeld.runPitchSteps {s : State} (hs : RecipesHeld [] s) (x : StepCtx) (ticks : List Tick) :
    RecipesHeld [] (runPitchSteps x ticks s) :=
  runPitchSteps_keeps (RecipesHeld []) x ticks s hs (fun n l _ ht => ht.runStage x n l) (fun raw inStep _ _ ht => ht.convert raw inStep)

/-! ## Before the pitch steps -/

theorem RecipesHeld.gapHandling {s : State} (hs : RecipesHeld [] s) (last k : Index) (order : List Lane) :
    RecipesHeld [] (gapHandling last k order s) := by
  refine gapHandling_keeps (RecipesHeld []) last k order s (hs.latchChip _ _) (fun n l t ht => ?_)
  unfold gapPart
  split
  · exact ht.removeGate _ LaneRec.steady_countUnverified (by simp [LaneRec.countUnverified])
  · rw [State.retireWeb_eq]
    exact ht.releaseWeb l List.takeWhile_append_dropWhile.symm (fun c r => r.steady_countRejected c.retire) (by simp)
  · exact ht.mapWeb l (fun c => ⟨by simp, by simp⟩)
  · exact ht

theorem RecipesHeld.lostTrack {s : State} (hs : RecipesHeld [] s) (last k : Index) : RecipesHeld [] (lostTrack last k s) := by
  have hgate := hs.removeGate (fun _ => true) LaneRec.steady_countUnverified (by simp [LaneRec.countUnverified])
  have hwebs := State.eachLane_keeps (RecipesHeld []) (fun l t => t.loseWeb l) _ hgate (fun l t ht => by
    rw [State.loseWeb_eq]
    exact ht.releaseWeb l (List.append_nil _).symm (fun _ _ => .of_same rfl rfl rfl) (fun _ _ => rfl))
  refine State.eachLane_keeps (RecipesHeld []) _ _ hwebs (fun l t ht => ?_)
  unfold State.loseLane
  split
  · exact ht
  · exact (ht.updLane l (f := fun r => { r.enterFault with blind := t.map.e }) (fun r => r.steady_enterFault)
      (fun r => r.enterFault_web)).latchLane l _ _

theorem RecipesHeld.continuity {s : State} (hs : RecipesHeld [] s) (cls : FrameClass) (k : Index) (gapOrder : List Lane) :
    RecipesHeld [] (continuity cls k gapOrder s) := by
  unfold Machine.continuity
  split
  · exact hs.latchChip _ _
  · exact hs.gapHandling _ k gapOrder
  · exact hs.lostTrack _ k
  · exact hs

/-- No lane blocks the bank switch exactly when every lane in RUN or DRAIN has a VALID entry of its number in the other bank (R68). -/
theorem State.switchBlockers_eq_nil (s : State) : s.switchBlockers = [] ↔
    ∀ l, Working (s.lane l) → (s.entry s.active.other (s.lane l).assigned).valid = true := by
  simp [State.switchBlockers, List.filter_eq_nil_iff, Working]

/-- The bank is switched only where every lane in RUN or DRAIN keeps a VALID entry (R68, R72). -/
theorem RecipesHeld.decideSwitch {s : State} (hs : RecipesHeld [] s) (k : Index) : RecipesHeld [] (s.decideSwitch k) := by
  unfold State.decideSwitch
  split
  · exact hs
  · split
    · split
      · next hb =>
        exact hs.of_lists rfl rfl rfl (fun _ => rfl) ((State.switchBlockers_eq_nil s).1 hb)
      · exact hs.of_same rfl rfl rfl rfl (fun _ => rfl)
    · exact hs

theorem RecipesHeld.frameAccepted {s : State} (hs : RecipesHeld [] s) (k : Index) : RecipesHeld [] (frameAccepted k s) := by
  have hlast : RecipesHeld [] { s with lastIndex := some k } := hs.of_same rfl rfl rfl rfl (fun _ => rfl)
  unfold Machine.frameAccepted State.clearPlans
  exact State.eachLane_keeps (RecipesHeld []) _ _ (hlast.decideSwitch k) (fun l _ ht =>
    ht.updLane_same l (f := fun r => { r with plan := LanePlan.none }) (fun _ => rfl) (fun _ => rfl) (fun _ => rfl) (fun _ => rfl))

theorem RecipesHeld.beginCycle {s : State} (hs : RecipesHeld [] s) (f : Frame) (cls : FrameClass) (gapOrder : List Lane) :
    RecipesHeld [] (beginCycle f cls gapOrder s) := by
  have htaken : RecipesHeld [] (frameTaken cls s) := hs.of_same rfl rfl rfl rfl (fun _ => rfl)
  have hcontinuity := htaken.continuity cls (frameIndex f) gapOrder
  rw [beginCycle_eq]
  split
  · exact hcontinuity
  · exact hcontinuity.frameAccepted _

end Sys2Proof.Machine
end

section
/-! PROOFS. The slots of a cycle frame, every request, every command and every step keep the recipe banks (R41, R58, R62, R63, R68, R73, R125, R142,
R170). -/

namespace Sys2Proof.Machine

open Sys2Proof.Safety

/-! ## The slots of a cycle frame -/

/-- What the ring counters and the latching of alarms keep of the state, the slots of a cycle frame keep (R149 to R152). -/
theorem slots_keep (P : State → Prop) (hring : ∀ s r, P s → P { s with ring := r }) (hchip : ∀ s a d, P s → P (s.latchChip a d))
    (hlane : ∀ s l a d, P s → P (s.latchLane l a d)) (isRepeat : Bool) (f : Frame) {s : State} (hs : P s) :
    P (finishCycle isRepeat f s).state := by
  have hwrite : ∀ i kind l (w : Work), P w.state → P (writeCommand isRepeat i kind l w).state := fun i kind l w hw => by
    unfold writeCommand
    split
    · exact hw
    · split
      · simp only
        split
        · exact hw
        · exact hchip _ _ _ hw
      · exact hring _ _ hw
  have hcompare : ∀ i kind l (w : Work), P w.state → P (compareCommand isRepeat i kind l w).state := fun i kind l w hw => by
    unfold compareCommand
    simp only
    split
    · split
      · exact hw
      · exact hring _ _ hw
      · exact hlane _ _ _ _ (hring _ _ hw)
    · split
      · exact hring _ _ hw
      · exact hw
  refine finishCycle_keeps (fun w => P w.state) isRepeat f s hs (fun w e hw => ?_) (fun w hw => ?_) (fun _ hw => hw)
  · unfold commandSlot
    split
    · split
      · exact hwrite _ _ _ w hw
      · exact hcompare _ _ _ w hw
      · exact hw
    all_goals exact hw
  · unfold writeStatus
    split
    · exact hw
    · split
      · exact hw
      · exact hring _ _ hw

theorem RecipesHeld.processCycle {s : State} (hs : RecipesHeld [] s) (f : Frame) (gapOrder : List Lane) (ticks : List Tick) :
    RecipesHeld [] (processCycle f gapOrder ticks s).state := by
  rw [processCycle_eq]
  exact slots_keep (RecipesHeld []) (fun _ _ h => h.of_same rfl rfl rfl rfl (fun _ => rfl)) (fun _ a d h => h.latchChip a d)
    (fun _ l a d h => h.latchLane l a d) _ f ((hs.beginCycle f _ gapOrder).runPitchSteps _ ticks)

/-! ## Requests -/

/-- With no card on any list, every count 0 and every lane in IDLE without a batch, only the ranges of the recipes are left (R36, R57, R73). -/
theorem RecipesHeld.of_empty {t : State} (hg : t.gate = [])
    (hl : ∀ l, (t.lane l).web = [] ∧ (t.lane l).state = .idle ∧ (t.lane l).openBatch = none)
    (he : ∀ b n, (t.entry b n).refs = 0 ∧ ∀ r ∈ (t.entry b n).recipe, r.inRange = true) : RecipesHeld [] t where
  refs b n := by simp [references_eq, hg, hl, he]
  entry b n := ⟨(he b n).2, fun hpos => by simp [(he b n).1] at hpos⟩
  assigned l hw := by simp [Working, hl] at hw
  batch l b hb := by simp [hl] at hb

/-- A recipe in range, or none, is written into an entry that no card names, of the bank that is not active (R63). -/
theorem RecipesHeld.setRecipe {s : State} (hs : RecipesHeld [] s) {b : Bank} {n : EntryNo} {r : Option Recipe} (hb : b ≠ s.active)
    (hrefs : (s.entry b n).refs = 0) (hr : ∀ x ∈ r, x.inRange = true) :
    RecipesHeld [] (s.setEntry b n { s.entry b n with recipe := r }) := by
  refine ⟨fun c m => ?_, fun c m => ?_, fun l => ?_, fun l => ?_⟩
  · rw [references_congr (s.setEntry_gate b n _) (fun l => by rw [State.lane_setEntry]), ← hs.refs, State.entry_setEntry]
    split
    · next h => obtain ⟨rfl, rfl⟩ := h; rfl
    · rfl
  · rw [State.entry_setEntry]
    split
    · exact ⟨hr, fun hpos => absurd hrefs (Nat.ne_of_gt hpos)⟩
    · exact hs.entry c m
  · rw [State.lane_setEntry, State.setEntry_active, State.entry_setEntry_ne _ _ (.inl hb)]
    exact hs.assigned l
  · rw [State.lane_setEntry]
    exact hs.batch l

theorem RecipesHeld.settleStop {s : State} (hs : RecipesHeld [] s) : RecipesHeld [] s.settleStop := by
  unfold State.settleStop
  split
  · split
    · exact hs.of_same rfl rfl rfl rfl (fun _ => rfl)
    · exact hs
  · exact hs.of_same rfl rfl rfl rfl (fun _ => rfl)

theorem RecipesHeld.clearLatches {s : State} (hs : RecipesHeld [] s) (sc : Scope) : RecipesHeld [] (s.clearLatches sc) := by
  have hlane : ∀ l (t : State), RecipesHeld [] t → RecipesHeld [] (t.clearLaneLatches l) := fun l t ht =>
    ht.updLane_same l (fun _ => rfl) (fun _ => rfl) (fun _ => rfl) (fun _ => rfl)
  have hchip : ∀ t : State, RecipesHeld [] t → RecipesHeld [] t.clearChipLatches := fun t ht =>
    ht.of_same rfl rfl rfl rfl (fun _ => rfl)
  cases sc with
  | lane l => exact hlane l s hs
  | chip => exact hchip s hs
  | all => exact hchip _ (State.eachLane_keeps (RecipesHeld []) _ _ hs hlane)

theorem RecipesHeld.maskScope {s : State} (hs : RecipesHeld [] s) (summary stop : Byte) (sc : Scope) :
    RecipesHeld [] (s.maskScope summary stop sc) := by
  have hlane : ∀ l (t : State), RecipesHeld [] t → RecipesHeld [] (t.maskLane summary stop l) := fun l t ht =>
    ht.updLane_same l (fun _ => rfl) (fun _ => rfl) (fun _ => rfl) (fun _ => rfl)
  cases sc with
  | lane l => exact hlane l s hs
  | chip => exact hs.of_same rfl rfl rfl rfl (fun _ => rfl)
  | all => exact State.eachLane_keeps (RecipesHeld []) _ _ hs hlane

/-- A lane that starts has an entry VALID in the active bank (R41). -/
theorem RecipesHeld.startLane {s : State} (hs : RecipesHeld [] s) (l : Lane) {e : EntryNo} (he : (s.entry s.active e).valid = true) :
    RecipesHeld [] (s.startLane l e) := by
  have hrun : RecipesHeld [] (s.updLane l (fun r => { r with state := .run, assigned := e })) :=
    hs.setLane l _ (fun _ _ => rfl) (fun _ => he) (hs.batch l)
  unfold State.startLane
  simp only
  split
  · exact hrun.zoneFaultBegins l false
  · exact hrun

/-- RESTART frees every card and keeps the recipes (R73). -/
theorem RecipesHeld.restart {s : State} (hs : RecipesHeld [] s) : RecipesHeld [] s.restart := by
  have hl : ∀ l, s.restart.lane l = (s.lane l).restart := fun l => by simp [State.restart, State.lane]
  have he : ∀ b n, s.restart.entry b n = (s.entry b n).restart := fun b n => by cases b <;> simp [State.restart, State.entry]
  refine .of_empty rfl (fun l => ?_) (fun b n => ?_)
  · rw [hl]
    exact ⟨rfl, rfl, rfl⟩
  · rw [he]
    exact ⟨rfl, (hs.entry b n).1⟩

/-- Every request keeps the laws. -/
theorem RecipesHeld.served {s u : State} (hs : RecipesHeld [] s) (h : Served s u) : RecipesHeld [] u := by
  have hsame : ∀ l (f : LaneRec → LaneRec), (∀ r, (f r).web = r.web) → (∀ r, (f r).openBatch = r.openBatch) →
      (∀ r, (f r).state = r.state) → (∀ r, (f r).assigned = r.assigned) → RecipesHeld [] (s.updLane l f) := fun l f => hs.updLane_same l
  cases h with
  | kept => exact hs
  | mapped m hidle hm => exact hs.of_same rfl rfl rfl rfl (fun _ => rfl)
  | placed m hidle hgate hm => exact hs.of_same rfl rfl rfl rfl (fun _ => rfl)
  | loaded b n r hb hrefs hr => exact hs.setRecipe hb hrefs hr
  | switched x => exact hs.of_same rfl rfl rfl rfl (fun _ => rfl)
  | started l e hidle hm hmap he => exact hs.startLane l he
  | reassigned l e hd he => exact hs.setLane l _ (fun _ _ => rfl) (fun _ => he) (hs.batch l)
  | resumed l hd => exact hs.setLane l _ (fun _ _ => rfl) (fun _ => hs.assigned l (.inr hd)) (hs.batch l)
  | drained l hr => exact hs.setLane l _ (fun _ _ => rfl) (fun _ => hs.assigned l (.inl hr)) (hs.batch l)
  | purged l hw =>
    have hmarked := hs.mapWeb l (keepsEntry_addReason .lanePurge)
    have hworking : Working ((s.mapWeb l (Card.addReason .lanePurge)).lane l) := by simpa [State.mapWeb, Working] using hw
    have hdrain := hmarked.setLane l { (s.mapWeb l (Card.addReason .lanePurge)).lane l with state := .drain } (hand' := [])
      (fun _ _ => rfl) (fun _ => hmarked.assigned l hworking) (hmarked.batch l)
    exact hdrain.of_same rfl rfl rfl rfl (fun _ => rfl)
  | cleared l hf hw hg hb => exact hs.close l _ _ (fun r => { r with held := _ }) (fun _ => rfl) (fun _ => rfl) (fun _ => rfl)
  | scheduled l ch hw => exact hsame l _ (fun _ => rfl) (fun _ => rfl) (fun _ => rfl) (fun _ => rfl)
  | forced l b => exact hsame l _ (fun _ => rfl) (fun _ => rfl) (fun _ => rfl) (fun _ => rfl)
  | autoPurged l b => exact hsame l _ (fun _ => rfl) (fun _ => rfl) (fun _ => rfl) (fun _ => rfl)
  | zeroedAll =>
    have hz : RecipesHeld [] (s.eachLane (fun l t => t.updLane l LaneRec.clearCounters)) :=
      State.eachLane_keeps (RecipesHeld []) _ _ hs
        (fun l _ ht => ht.updLane_same l (fun _ => rfl) (fun _ => rfl) (fun _ => rfl) (fun _ => rfl))
    exact hz.of_same rfl rfl rfl rfl (fun _ => rfl)
  | zeroed l => exact hsame l _ (fun _ => rfl) (fun _ => rfl) (fun _ => rfl) (fun _ => rfl)
  | alarmsRead sc => exact (hs.clearLatches sc).settleStop
  | masked summary stop sc => exact (hs.maskScope summary stop sc).settleStop
  | zoneSet l offset limit ho hl => exact hs.of_same rfl rfl rfl rfl (fun _ => rfl)
  | zonesRead raws => exact foldl_keeps (RecipesHeld []) _ _ s hs (fun _ raw _ ht => ht.convert raw _)
  | roleSet r hr => exact hs.of_same rfl rfl rfl rfl (fun _ => rfl)
  | restarted => exact hs.restart

/-! ## Commands -/

/-- Device reset leaves every entry EMPTY and every lane empty in IDLE (R57, R73). -/
theorem recipesHeld_reset : RecipesHeld [] State.reset := by
  have hl : ∀ l, State.reset.lane l = LaneRec.reset := fun l => by simp [State.reset, State.lane]
  have he : ∀ b n, State.reset.entry b n = ⟨none, 0⟩ := fun b n => by cases b <;> simp [State.reset, State.entry]
  refine .of_empty rfl (fun l => ?_) (fun b n => ?_)
  · rw [hl]
    exact ⟨rfl, rfl, rfl⟩
  · rw [he]
    exact ⟨rfl, by rintro r ⟨⟩⟩

theorem RecipesHeld.sendHead {s : State} (hs : RecipesHeld [] s) (f : Frame) : RecipesHeld [] (s.sendHead f) :=
  hs.of_same (s.sendHead_bankA f) (s.sendHead_bankB f) (s.sendHead_active f) (s.sendHead_gate f) (s.lane_sendHead f)

/-- Every command keeps the laws. -/
theorem RecipesHeld.effect {s t : State} (hs : RecipesHeld [] s) (h : Effect s t) : RecipesHeld [] t := by
  cases h with
  | kept => exact hs
  | reset addr high => exact recipesHeld_reset.of_same rfl rfl rfl rfl (fun _ => rfl)
  | halted => exact hs.of_same rfl rfl rfl rfl (fun _ => rfl)
  | removed => exact recipesHeld_reset.of_same rfl rfl rfl rfl (fun _ => rfl)
  | arrived f h =>
    unfold State.arrive
    split
    · exact hs.of_same rfl rfl rfl rfl (fun _ => rfl)
    · split <;> exact hs.of_same rfl rfl rfl rfl (fun _ => rfl)
  | departed f rest h hp hb => exact hs.of_same rfl rfl rfl rfl (fun _ => rfl)
  | rejected f rest cause h hp hb => exact hs.of_same rfl rfl rfl rfl (fun _ => rfl)
  | taken f rest p h hp hb => exact hs.of_same rfl rfl rfl rfl (fun _ => rfl)
  | handedOn f rest h hp hb =>
    unfold State.handOnCycle
    split <;> exact hs.of_same rfl rfl rfl rfl (fun _ => rfl)
  | cycled f rest gapOrder ticks h => exact (hs.processCycle f gapOrder ticks).sendHead _
  | saturated h => exact hs.of_same rfl rfl rfl rfl (fun _ => rfl)
  | converted raw h => exact hs.convert raw _
  | faulted l h => exact hs.faultAfterStep l
  | answered f g u hf hg hu => exact (hs.served hu).sendHead g

theorem RecipesHeld.tick {s : State} (hs : RecipesHeld [] s) : RecipesHeld [] s.tick := by
  unfold State.tick
  split
  · exact hs.of_same rfl rfl rfl rfl (fun _ => rfl)
  · exact hs

end Sys2Proof.Machine

namespace Sys2Proof.Proofs

open Sys2Proof.Machine Sys2Proof.Safety

/-- Settles O54: a card is counted at its entry from its creation, in the active bank's VALID assigned entry, until its record is freed; an
entry that a card names is not written, and a lane in RUN or DRAIN is given a VALID entry whenever it or the active bank changes. -/
theorem stepKeepsRecipes : Obligations.StepKeepsRecipes := by
  intro s t hs h
  rw [← recipesHeld_iff] at hs ⊢
  exact step_leads_to (RecipesHeld []) (RecipesHeld []) (fun s q hs => hs.of_same rfl rfl rfl rfl (fun _ => rfl)) (fun s hs => hs.tick)
    (fun s t hs he => hs.effect he) hs h

end Sys2Proof.Proofs
end

section
/-! PROOFS. The bank switch decision (R68, R72). -/

namespace Sys2Proof.Machine

open Sys2Proof.Safety

/-- The least number that passes a test is the first of those that do. -/
theorem filter_finRange_eq_cons {n : Nat} {p : Fin n → Bool} {i : Fin n} (hi : p i = true) (hleast : ∀ j < i, p j = false) :
    ∃ rest, (List.finRange n).filter p = i :: rest := by
  obtain ⟨before, after, hsplit⟩ := List.append_of_mem (List.mem_finRange i)
  have hsorted := List.pairwise_lt_finRange n
  rw [hsplit, List.pairwise_append] at hsorted
  have hbefore : before.filter p = [] :=
    List.filter_eq_nil_iff.2 fun j hj => by simp [hleast j (hsorted.2.2 j hj i (List.mem_cons_self ..))]
  exact ⟨after.filter p, by rw [hsplit, List.filter_append, hbefore, List.filter_cons_of_pos hi, List.nil_append]⟩

theorem decideSwitch_of_early {s : State} {x k : Index} (h : s.pendingSwitch = some x) (hk : reached x k = false) :
    s.decideSwitch k = s := by
  simp [State.decideSwitch, h, hk]

/-- A reached switch with no lane in its way is taken (R68). -/
theorem decideSwitch_of_free {s : State} {x k : Index} (h : s.pendingSwitch = some x) (hk : reached x k = true)
    (hb : s.switchBlockers = []) : s.decideSwitch k = { s with active := s.active.other, pendingSwitch := none } := by
  simp [State.decideSwitch, h, hk, hb]

/-- A reached switch with a lane in its way is dropped (R72). -/
theorem decideSwitch_of_blocked {s : State} {x k : Index} {l : Lane} {rest : List Lane} (h : s.pendingSwitch = some x)
    (hk : reached x k = true) (hb : s.switchBlockers = l :: rest) :
    s.decideSwitch k = State.latchChip { s with pendingSwitch := none } .bankSwitchFailed (bytes16 x ++ [byteOf l]) := by
  simp [State.decideSwitch, h, hk, hb]

end Sys2Proof.Machine

namespace Sys2Proof.Proofs

open Sys2Proof.Machine Sys2Proof.Safety

/-- Settles O32: the lanes in the way are listed lowest first, and the first of them is named. -/
theorem bankSwitchDecision : Obligations.BankSwitchDecision := by
  intro k s
  refine ⟨fun h => by simp [State.decideSwitch, h], fun x hx => ?_⟩
  intro blocks
  refine ⟨fun hk => decideSwitch_of_early hx ?_, fun hk hnone => decideSwitch_of_free hx ((reached_iff x k).2 hk) ?_,
    fun hk l hl hleast => ?_⟩
  · rw [← Bool.not_eq_true, reached_iff]
    omega
  · refine (State.switchBlockers_eq_nil s).2 fun l hw => Option.isSome_iff_ne_none.2 fun hn => hnone l ⟨hw, hn⟩
  · have htest : ∀ m : Lane, (((s.lane m).state = .run || (s.lane m).state = .drain) &&
        !(s.entry s.active.other (s.lane m).assigned).valid) = true ↔ blocks m := fun m => by simp [blocks, Entry.valid]
    obtain ⟨rest, hrest⟩ := filter_finRange_eq_cons ((htest l).2 hl)
      (fun m hm => by rw [← Bool.not_eq_true, htest]; exact hleast m hm)
    exact decideSwitch_of_blocked hx ((reached_iff x k).2 hk) hrest

end Sys2Proof.Proofs
end

section
/-! PROOFS. READ_RECIPE, SWITCH_BANK and its CANCEL, SET_ROLE and CLEAR_COUNTERS (R65 to R67, R131, R143, R169). -/

namespace Sys2Proof.Machine

open Sys2Proof.Safety

/-- A request under the node address is answered with what its rule decides (R161). -/
theorem serve_decided {r : Request} {decide : List Byte → State → Answer} {f : Frame} {rest : List Frame} {s : State} {a : Answer}
    (h : Serves s f rest r) (ha : decide (serviceData f) s = a) (hb : a.state.buffer = s.buffer) :
    serve r decide s = .next (replied a.state f rest a.status a.data) := by
  subst ha
  exact serve_addressed r decide f rest s h hb

/-! ## The entry an operand names -/

theorem bankOf_code (b : Bank) : bankOf b.code = some b := by cases b <;> rfl

theorem Bank.code_eq (b : Bank) : b.code = if b = .A then 0#8 else 1#8 := by cases b <;> rfl

theorem byte_eq_bank_code {x : Byte} {b : Bank} (h : x.toNat = if b = .A then 0 else 1) : x = b.code := by
  rw [← BitVec.toNat_inj, h]
  cases b <;> rfl

theorem bankOf_eq_none {x : Byte} (h : 1 < x.toNat) : bankOf x = none := by
  have h0 : x ≠ 0 := fun h' => by simp [h'] at h
  have h1 : x ≠ 1 := fun h' => by simp [h'] at h
  rw [bankOf, if_neg h0, if_neg h1]

theorem entryOf_val (n : EntryNo) : entryOf n.val = some n := dif_pos n.isLt

theorem entryOf_eq_none {n : Nat} (h : 15 < n) : entryOf n = none := dif_neg (by omega)

theorem byteOf_natAt (d : List Byte) (i : Nat) : byteOf (natAt d i) = byteAt d i := by simp [byteOf, natAt]

/-- The operand names entry `n` of bank `b` in its first two bytes (R61, R158). -/
def NamesEntry (d : List Byte) (b : Bank) (n : EntryNo) : Prop := natAt d 0 = (if b = .A then 0 else 1) ∧ natAt d 1 = n

theorem NamesEntry.bankOf {d : List Byte} {b : Bank} {n : EntryNo} (h : NamesEntry d b n) : bankOf (byteAt d 0) = some b := by
  rw [byte_eq_bank_code h.1, bankOf_code]

theorem NamesEntry.entryOf {d : List Byte} {b : Bank} {n : EntryNo} (h : NamesEntry d b n) : entryOf (natAt d 1) = some n := by
  rw [h.2, entryOf_val]

/-- The reply repeats the operand's bank and entry. -/
theorem NamesEntry.recipeReply {d : List Byte} {b : Bank} {n : EntryNo} (h : NamesEntry d b n) (s : State) :
    s.recipeReply b n = [byteAt d 0, byteAt d 1, (s.entry b n).stateByte, byteOf (s.entry b n).refs] := by
  rw [State.recipeReply, byte_eq_bank_code h.1, ← byteOf_natAt d 1, h.2]

theorem names_no_entry {d : List Byte} (h : 1 < natAt d 0 ∨ 15 < natAt d 1) :
    bankOf (byteAt d 0) = none ∨ entryOf (natAt d 1) = none :=
  h.imp bankOf_eq_none entryOf_eq_none

/-! ## READ_RECIPE -/

theorem decideReadRecipe_of_malformed {d : List Byte} {s : State} (h : restZero d 2 = false) : decideReadRecipe d s = refuseFormat s :=
  if_pos (by simp [h])

theorem decideReadRecipe_of_no_entry {d : List Byte} {s : State} (hz : restZero d 2 = true) (h : 1 < natAt d 0 ∨ 15 < natAt d 1) :
    decideReadRecipe d s = refuse .refusedRange [] s := by
  rw [decideReadRecipe, if_neg (by simp [hz])]
  rcases names_no_entry h with hnone | hnone
  · rw [hnone]
  · rw [hnone]
    cases bankOf (byteAt d 0) <;> rfl

theorem decideReadRecipe_of_entry {d : List Byte} {b : Bank} {n : EntryNo} (s : State) (hz : restZero d 2 = true) (h : NamesEntry d b n) :
    decideReadRecipe d s =
      ⟨.done, [byteAt d 0, byteAt d 1, (s.entry b n).stateByte, byteOf (s.entry b n).refs] ++ (s.entry b n).bytes, s⟩ := by
  rw [decideReadRecipe, if_neg (by simp [hz]), h.bankOf, h.entryOf]
  simp only [h.recipeReply]

theorem Entry.valid_bytes {e : Entry} {r : Recipe} (h : e.recipe = some r) : e.stateByte = 1 ∧ e.bytes = r.bytes := by
  rw [Entry.stateByte, Entry.valid, Entry.bytes, h]
  exact ⟨rfl, rfl⟩

theorem Entry.empty_bytes {e : Entry} (h : e.recipe = none) : e.stateByte = 0 ∧ e.bytes = List.replicate 35 0 := by
  rw [Entry.stateByte, Entry.valid, Entry.bytes, h]
  exact ⟨rfl, rfl⟩

theorem CloseMode.code_eq (m : CloseMode) : m.code = match m with | .fixed => 1 | .runEnd => 2 | .runEndMark => 3 := by cases m <;> rfl

/-! ## SWITCH_BANK -/

theorem State.switchReply_of_none {s : State} (h : s.pendingSwitch = none) : s.switchReply = [s.active.code, 0, 0, 0] := by
  rw [State.switchReply, h]
  rfl

theorem decideSwitchBank_of_malformed {d : List Byte} {s : State} (h : restZero d 3 = false) : decideSwitchBank d s = refuseFormat s :=
  if_pos (by simp [h])

theorem decideSwitchBank_of_pending {d : List Byte} {s : State} {x : Index} (hz : restZero d 3 = true) (h : s.pendingSwitch = some x) :
    decideSwitchBank d s = refuse .refusedBusy ([s.active.code, 1] ++ bytes16 x) s := by
  rw [decideSwitchBank, if_neg (by simp [hz]), if_pos (by simp [h]), State.switchReply, h]
  rfl

theorem decideSwitchBank_of_none {d : List Byte} {s : State} (hz : restZero d 3 = true) (h : s.pendingSwitch = none) :
    decideSwitchBank d s =
      ⟨.scheduled, [s.active.code, 1] ++ bytes16 (word16 d 1), { s with pendingSwitch := some (word16 d 1) }⟩ := by
  rw [decideSwitchBank, if_neg (by simp [hz]), if_neg (by simp [h])]
  rfl

theorem decideSwitchBankCancel_of_malformed {d : List Byte} {s : State} (h : restZero d 1 = false) :
    decideSwitchBankCancel d s = refuseFormat s :=
  if_pos (by simp [h])

theorem decideSwitchBankCancel_of_pending {d : List Byte} {s : State} {x : Index} (hz : restZero d 1 = true) (h : s.pendingSwitch = some x) :
    decideSwitchBankCancel d s = ⟨.done, [s.active.code, 0, 0, 0], { s with pendingSwitch := none }⟩ := by
  rw [decideSwitchBankCancel, if_neg (by simp [hz]), if_pos (by simp [h]), ← State.switchReply_of_none (s := { s with pendingSwitch := none }) rfl]

theorem decideSwitchBankCancel_of_none {d : List Byte} {s : State} (hz : restZero d 1 = true) (h : s.pendingSwitch = none) :
    decideSwitchBankCancel d s = refuse .refusedState [s.active.code, 0, 0, 0] s := by
  rw [decideSwitchBankCancel, if_neg (by simp [hz]), if_neg (by simp [h]), State.switchReply_of_none h]

/-- The lowest flag of the status says whether a switch is pending (R156). -/
theorem statusFlags_mod_two {s : State} (h : s.pendingSwitch = none) : s.statusFlags % 2 = 0 := by
  rw [State.statusFlags, h, bitsFromLow_cons, Nat.bit_val]
  exact Nat.mul_mod_right ..

/-! ## SET_ROLE -/

theorem decideSetRole_of_malformed {d : List Byte} {s : State} (h : restZero d 1 = false) : decideSetRole d s = refuseFormat s :=
  if_pos (by simp [h])

theorem roleOf_eq_none {x : Byte} (h1 : x.toNat ≠ 1) (h2 : x.toNat ≠ 2) : roleOf x = none := by
  rw [roleOf, if_neg (fun h => h1 (by rw [h]; rfl)), if_neg (fun h => h2 (by rw [h]; rfl))]

theorem decideSetRole_of_no_role {d : List Byte} {s : State} (hz : restZero d 1 = true) (h1 : natAt d 0 ≠ 1) (h2 : natAt d 0 ≠ 2) :
    decideSetRole d s = refuse .refusedRange s.roleReply s := by
  rw [decideSetRole, if_neg (by simp [hz]), roleOf_eq_none h1 h2]

theorem roleOf_eq_some {x : Byte} (h : x.toNat = 1 ∨ x.toNat = 2) :
    ∃ r, roleOf x = some r ∧ r = (if x.toNat = 1 then .monitor else .active) ∧ r.code = x := by
  rcases h with h | h
  · have hx : x = 1 := BitVec.eq_of_toNat_eq h
    exact ⟨.monitor, by rw [hx]; rfl, by rw [if_pos h], hx.symm⟩
  · have hx : x = 2 := BitVec.eq_of_toNat_eq h
    exact ⟨.active, by rw [hx]; rfl, by rw [if_neg (by omega)], hx.symm⟩

theorem decideSetRole_of_role {d : List Byte} {s : State} (hz : restZero d 1 = true) (h : natAt d 0 = 1 ∨ natAt d 0 = 2) :
    decideSetRole d s = ⟨.done, [s.role.code, byteAt d 0],
      { s with pendingRole := some (if natAt d 0 = 1 then .monitor else .active) }⟩ := by
  obtain ⟨r, hr, hrole, hcode⟩ := roleOf_eq_some h
  rw [decideSetRole, if_neg (by simp [hz]), hr]
  show (⟨.done, [s.role.code, r.code], { s with pendingRole := some r }⟩ : Answer) = _
  rw [hcode, hrole]
  rfl

/-! ## CLEAR_COUNTERS -/

theorem decideClearCounters_of_malformed {d : List Byte} {s : State} (h : restZero d 1 = false) :
    decideClearCounters d s = refuseFormat s :=
  if_pos (by simp [h])

theorem decideClearCounters_of_no_lane {d : List Byte} {s : State} (hz : restZero d 1 = true) (h : 5 < natAt d 0) (hall : natAt d 0 ≠ 255) :
    decideClearCounters d s = refuse .refusedRange [] s := by
  rw [decideClearCounters, if_neg (by simp [hz]), if_neg hall, Proofs.laneOf_eq_none h]

theorem decideClearCounters_of_lane {d : List Byte} {l : Lane} (s : State) (hz : restZero d 1 = true) (h : natAt d 0 = l) :
    decideClearCounters d s = ⟨.done, [byteAt d 0], s.updLane l LaneRec.clearCounters⟩ := by
  rw [decideClearCounters, if_neg (by simp [hz]), if_neg (by omega), h, Proofs.laneOf_val]

/-- The state with every lane's counters and the Ring Port's at 0 (R169). -/
def State.clearAllCounters (s : State) : State :=
  { s.eachLane (fun l t => t.updLane l LaneRec.clearCounters) with ring := ⟨0, 0, 0, 0, 0⟩ }

theorem decideClearCounters_of_all {d : List Byte} {s : State} (hz : restZero d 1 = true) (h : natAt d 0 = 255) :
    decideClearCounters d s = ⟨.done, [0xFF], s.clearAllCounters⟩ := by
  rw [decideClearCounters, if_neg (by simp [hz]), if_pos h]
  rfl

theorem State.lane_clearAllCounters (s : State) (l : Lane) :
    s.clearAllCounters.lane l = { s.lane l with counters := Vector.replicate 21 0 } :=
  s.lane_eachLane_updLane LaneRec.clearCounters l

theorem State.clearAllCounters_frame (s : State) : { s.clearAllCounters with lanes := s.lanes, ring := s.ring } = s :=
  State.eachLane_keeps (fun t => ({ t with lanes := s.lanes, ring := s.ring } : State) = s) _ s rfl fun _ _ h => h

end Sys2Proof.Machine

namespace Sys2Proof.Proofs

open Sys2Proof.Machine Sys2Proof.Safety

/-- Settles O37, by the operand: broadcast, malformed, naming no entry, and naming one. -/
theorem readRecipeReturnsEntry : Obligations.ReadRecipeReturnsEntry := by
  intro f rest s h d
  refine ⟨fun ha => serve_broadcast_read _ _ f rest s h ha rfl, fun ha => ⟨fun hz => ?_, fun hz hno => ?_, fun b n hz hb hn => ?_⟩⟩
  · exact serve_decided ⟨h, ha⟩ (decideReadRecipe_of_malformed hz) rfl
  · exact serve_decided ⟨h, ha⟩ (decideReadRecipe_of_no_entry hz hno) rfl
  · have hserve := serve_decided ⟨h, ha⟩ (decideReadRecipe_of_entry s hz ⟨hb, hn⟩) rfl
    refine ⟨fun hempty => ?_, fun r hvalid => ?_⟩
    · rw [(Entry.empty_bytes hempty).1, (Entry.empty_bytes hempty).2] at hserve
      exact hserve
    · rw [(Entry.valid_bytes hvalid).1, (Entry.valid_bytes hvalid).2, Recipe.bytes, CloseMode.code_eq] at hserve
      simp only [List.append_assoc] at hserve ⊢
      exact hserve

/-- Settles O44: the three requests, each by its refusals and what it does. -/
theorem switchRoleAndCounters : Obligations.SwitchRoleAndCounters := by
  refine ⟨rfl, rfl, fun _ => rfl, fun f rest s => ?_, fun f rest s h => ?_⟩
  · intro d bank
    have hbank : bank = s.active.code := (Bank.code_eq _).symm
    rw [hbank]
    refine ⟨fun h => ⟨fun hz => ?_, fun x hz hx => ?_, fun hz hx => ?_⟩, fun h => ⟨fun hz => ?_, fun hz h1 h2 => ?_, fun hz hr => ?_⟩⟩
    · exact serve_decided h (decideSwitchBank_of_malformed hz) rfl
    · exact serve_decided h (decideSwitchBank_of_pending hz hx) rfl
    · exact serve_decided h (decideSwitchBank_of_none hz hx) rfl
    · exact serve_decided h (decideSetRole_of_malformed hz) rfl
    · exact serve_decided h (decideSetRole_of_no_role hz h1 h2) rfl
    · exact serve_decided h (decideSetRole_of_role hz hr) rfl
  · intro d
    refine ⟨fun hz => ?_, fun hz h5 hall => ?_, fun l hz hl => ?_, fun hz hall => ⟨s.clearAllCounters, ?_, rfl, s.lane_clearAllCounters, ?_⟩⟩
    · exact serve_decided h (decideClearCounters_of_malformed hz) rfl
    · exact serve_decided h (decideClearCounters_of_no_lane hz h5 hall) rfl
    · exact serve_decided h (decideClearCounters_of_lane s hz hl) rfl
    · exact serve_decided h (decideClearCounters_of_all hz hall) (congrArg State.buffer s.clearAllCounters_frame :)
    · exact s.clearAllCounters_frame

/-- Settles O45. -/
theorem switchBankCancelRemovesSwitch : Obligations.SwitchBankCancelRemovesSwitch := by
  intro f rest s h bank
  have hbank : bank = s.active.code := (Bank.code_eq _).symm
  rw [hbank]
  refine ⟨fun hz => ?_, fun x hz hx => ⟨_, ?_, rfl, statusFlags_mod_two rfl⟩, fun hz hx => ?_⟩
  · exact serve_decided h (decideSwitchBankCancel_of_malformed hz) rfl
  · exact serve_decided h (decideSwitchBankCancel_of_pending hz hx) rfl
  · exact serve_decided h (decideSwitchBankCancel_of_none hz hx) rfl

end Sys2Proof.Proofs
end

section
/-! PROOFS. The recipe of a LOAD_RECIPE operand and of the bytes READ_RECIPE gives (R58, R59, R158). -/

namespace Sys2Proof.Machine

open Sys2Proof.Safety Sys2Proof.Proofs

/-! ## Lists read by place -/

theorem getD_map_range {α : Type} (f : Nat → α) (a : α) {n j : Nat} (h : j < n) : ((List.range n).map f).getD j a = f j := by
  simp [List.getD_eq_getElem?_getD, h]

/-- A list is what it holds at each of its places. -/
theorem map_range_eq {α : Type} {f : Nat → α} {xs : List α} {n : Nat} (hn : xs.length = n) (h : ∀ (j : Nat) (hj : j < xs.length), f j = xs[j]) :
    (List.range n).map f = xs :=
  List.ext_getElem (by simp [hn]) fun j _ hj => by rw [List.getElem_map, List.getElem_range, h j hj]

theorem take_counts8 (d : List Byte) (i n : Nat) : (counts8 d i).take n = (List.range (min n 8)).map (packedCount d i) := by
  rw [counts8_eq, ← List.map_take, List.take_range]

theorem padTo_of_length {n : Nat} {bs : List Byte} (h : bs.length = n) : padTo n bs = bs := by
  rw [padTo, ← h, List.take_length, Nat.sub_self, List.replicate_zero, List.append_nil]

/-! ## Single fields -/

/-- The value of a signed field: the sign in bit 7, the magnitude below (R158). -/
def signedValue (n : Nat) : Int := if n < 128 then (n : Int) else -((n - 128 : Nat) : Int)

theorem signedOf_eq (b : Byte) : signedOf b = signedValue b.toNat := by
  have hb : b.toNat < 256 := b.isLt
  rw [signedOf, signedValue, magnitude]
  split <;> omega

theorem toNat_signedByte {o : Int} (h : -128 < o ∧ o < 128) : (signedByte o).toNat = if o < 0 then 128 + o.natAbs else o.natAbs := by
  rw [signedByte]
  split <;> exact toNat_byteOf (by omega)

theorem signedOf_signedByte {o : Int} (h : -128 < o ∧ o < 128) : signedOf (signedByte o) = o := by
  rw [signedOf_eq, toNat_signedByte h, signedValue]
  split_ifs <;> omega

theorem signedValue_range {n : Nat} (h : n < 256) : (-63 ≤ signedValue n ∧ signedValue n ≤ 63) ↔ n % 128 ≤ 63 := by
  rw [signedValue]
  split <;> omega

theorem closeModeOf_code (m : CloseMode) : closeModeOf m.code = some m := by cases m <;> rfl

theorem CloseMode.toNat_code (m : CloseMode) : m.code.toNat = match m with | .fixed => 1 | .runEnd => 2 | .runEndMark => 3 := by
  cases m <;> rfl

/-- The close mode of a code from 1 to 3 (R158). -/
def modeOfCode (n : Nat) : CloseMode := if n = 1 then .fixed else if n = 2 then .runEnd else .runEndMark

theorem toNat_code_modeOfCode {n : Nat} (h : 1 ≤ n ∧ n ≤ 3) : (modeOfCode n).code.toNat = n := by
  rw [modeOfCode]
  split_ifs with h1 h2
  · exact h1.symm
  · exact h2.symm
  · exact (show n = 3 by omega).symm

theorem closeModeOf_of_code {b : Byte} (h : 1 ≤ b.toNat ∧ b.toNat ≤ 3) : closeModeOf b = some (modeOfCode b.toNat) := by
  conv_lhs => rw [← BitVec.eq_of_toNat_eq (toNat_code_modeOfCode h)]
  exact closeModeOf_code _

theorem closeModeOf_of_no_code {b : Byte} (h : b.toNat = 0 ∨ 3 < b.toNat) : closeModeOf b = none := by
  have hne : ∀ m : CloseMode, b ≠ m.code := fun m hm => by
    rw [hm] at h
    cases m <;> simp [CloseMode.code] at h
  rw [closeModeOf, if_neg (c := b = 1) (hne .fixed), if_neg (c := b = 2) (hne .runEnd), if_neg (c := b = 3) (hne .runEndMark)]

/-! ## The recipe of an operand -/

/-- The recipe of a LOAD_RECIPE operand whose close mode code names a mode (R158). -/
def operandRecipe (d : List Byte) : Recipe where
  sku := word32 d 3
  cavities := natAt d 7
  expected := (List.range (min (natAt d 7) 8)).map (packedCount d 8)
  wMin := nat16At d 12
  wMax := nat16At d 14
  ta := natAt d 16
  eMin := nat16At d 17
  heatDose := nat16At d 19
  dMin := nat16At d 21
  dMax := nat16At d 23
  tolU := natAt d 25
  tolO := natAt d 26
  pb := natAt d 27
  offsets := (List.range 8).map (fun j => signedValue (natAt d (28 + j)))
  batchSize := natAt d 36
  closeMode := modeOfCode (natAt d 37)

theorem recipeOf_of_mode {d : List Byte} (h : 1 ≤ natAt d 37 ∧ natAt d 37 ≤ 3) : recipeOf d 3 = some (operandRecipe d) := by
  have hmode : closeModeOf (byteAt d (3 + 34)) = some (modeOfCode (natAt d 37)) := closeModeOf_of_code h
  rw [recipeOf, hmode, Option.map_some, take_counts8]
  simp only [signedOf_eq]
  rfl

theorem recipeOf_of_no_mode {d : List Byte} (h : natAt d 37 = 0 ∨ 3 < natAt d 37) : recipeOf d 3 = none := by
  have hmode : closeModeOf (byteAt d (3 + 34)) = none := closeModeOf_of_no_code h
  rw [recipeOf, hmode, Option.map_none]

theorem recipeOf_eq_some_iff {d : List Byte} {r : Recipe} :
    recipeOf d 3 = some r ↔ (1 ≤ natAt d 37 ∧ natAt d 37 ≤ 3) ∧ r = operandRecipe d := by
  by_cases h : 1 ≤ natAt d 37 ∧ natAt d 37 ≤ 3
  · rw [recipeOf_of_mode h, Option.some_inj]
    exact ⟨fun hr => ⟨h, hr.symm⟩, fun hr => hr.2.symm⟩
  · rw [recipeOf_of_no_mode (by omega)]
    exact ⟨nofun, fun hr => absurd hr.1 h⟩

/-! ## Ranges -/

/-- The ranges of R58 and R59, each under a name. -/
structure Recipe.InRange (r : Recipe) : Prop where
  cavities : 1 ≤ r.cavities ∧ r.cavities ≤ 8
  length : r.expected.length = r.cavities
  counts : ∀ n ∈ r.expected, 1 ≤ n ∧ n ≤ 15
  weights : r.wMin ≤ r.wMax ∧ r.wMax ≤ 65534
  ta : 60 ≤ r.ta ∧ r.ta ≤ 220
  eMin : 50 ≤ r.eMin ∧ r.eMin ≤ 500
  heatDose : 1000 ≤ r.heatDose ∧ r.heatDose ≤ 60000
  dwell : 20 ≤ r.dMin ∧ r.dMin ≤ r.dMax ∧ r.dMax ≤ 3000
  tolU : r.tolU ≤ 64
  tolO : r.tolO ≤ 255
  pb : 12 ≤ r.pb ∧ r.pb ≤ 225
  segments : r.offsets.length = 8
  offsets : ∀ o ∈ r.offsets, -63 ≤ o ∧ o ≤ 63
  batchSize : 1 ≤ r.batchSize ∧ r.batchSize ≤ 250

theorem Recipe.inRange_iff (r : Recipe) : r.inRange = true ↔ r.InRange := by
  simp only [Recipe.inRange, Bool.and_eq_true, decide_eq_true_eq, List.all_eq_true, and_assoc]
  constructor
  · rintro ⟨hc1, hc8, hlen, hcounts, -, hmax, hw, hta, hta', hem, hem', hhd, hhd', hd, hd', hd'', hu, ho, hpb, hpb', hseg, hoff, hbs, hbs'⟩
    exact ⟨⟨hc1, hc8⟩, hlen, hcounts, ⟨hw, hmax⟩, ⟨hta, hta'⟩, ⟨hem, hem'⟩, ⟨hhd, hhd'⟩, ⟨hd, hd', hd''⟩, hu, ho, ⟨hpb, hpb'⟩, hseg, hoff,
      ⟨hbs, hbs'⟩⟩
  · rintro ⟨⟨hc1, hc8⟩, hlen, hcounts, ⟨hw, hmax⟩, ⟨hta, hta'⟩, ⟨hem, hem'⟩, ⟨hhd, hhd'⟩, ⟨hd, hd', hd''⟩, hu, ho, ⟨hpb, hpb'⟩, hseg, hoff,
      ⟨hbs, hbs'⟩⟩
    exact ⟨hc1, hc8, hlen, hcounts, hw.trans hmax, hmax, hw, hta, hta', hem, hem', hhd, hhd', hd, hd', hd'', hu, ho, hpb, hpb', hseg, hoff,
      hbs, hbs'⟩

/-- The fields of a LOAD_RECIPE operand in their ranges: the counts inside the cavity count, and all eight offsets (R59, R63). -/
structure OperandInRange (d : List Byte) : Prop where
  cavities : 1 ≤ natAt d 7 ∧ natAt d 7 ≤ 8
  counts : ∀ j < natAt d 7, 1 ≤ packedCount d 8 j ∧ packedCount d 8 j ≤ 15
  weights : nat16At d 12 ≤ nat16At d 14 ∧ nat16At d 14 ≤ 65534
  ta : 60 ≤ natAt d 16 ∧ natAt d 16 ≤ 220
  eMin : 50 ≤ nat16At d 17 ∧ nat16At d 17 ≤ 500
  heatDose : 1000 ≤ nat16At d 19 ∧ nat16At d 19 ≤ 60000
  dwell : 20 ≤ nat16At d 21 ∧ nat16At d 21 ≤ nat16At d 23 ∧ nat16At d 23 ≤ 3000
  tolU : natAt d 25 ≤ 64
  tolO : natAt d 26 ≤ 255
  pb : 12 ≤ natAt d 27 ∧ natAt d 27 ≤ 225
  offsets : ∀ j < 8, natAt d (28 + j) % 128 ≤ 63
  batchSize : 1 ≤ natAt d 36 ∧ natAt d 36 ≤ 250
  mode : 1 ≤ natAt d 37 ∧ natAt d 37 ≤ 3

theorem expected_operandRecipe {d : List Byte} (h : natAt d 7 ≤ 8) :
    (operandRecipe d).expected = (List.range (natAt d 7)).map (packedCount d 8) := by
  rw [operandRecipe, Nat.min_eq_left h]

/-- An offset of the operand is within 63 as its magnitude bits are. -/
theorem offsets_operandRecipe (d : List Byte) :
    (∀ o ∈ (operandRecipe d).offsets, -63 ≤ o ∧ o ≤ 63) ↔ ∀ j < 8, natAt d (28 + j) % 128 ≤ 63 := by
  have hrange : ∀ j, (-63 ≤ signedValue (natAt d (28 + j)) ∧ signedValue (natAt d (28 + j)) ≤ 63) ↔ natAt d (28 + j) % 128 ≤ 63 :=
    fun j => signedValue_range (natAt_lt d (28 + j))
  simp only [operandRecipe, List.forall_mem_map, List.mem_range, hrange]

theorem counts_operandRecipe {d : List Byte} (h : natAt d 7 ≤ 8) :
    (∀ n ∈ (operandRecipe d).expected, 1 ≤ n ∧ n ≤ 15) ↔ ∀ j < natAt d 7, 1 ≤ packedCount d 8 j ∧ packedCount d 8 j ≤ 15 := by
  simp only [expected_operandRecipe h, List.forall_mem_map, List.mem_range]

theorem operandInRange_iff (d : List Byte) :
    OperandInRange d ↔ (1 ≤ natAt d 37 ∧ natAt d 37 ≤ 3) ∧ (operandRecipe d).inRange = true := by
  rw [Recipe.inRange_iff]
  constructor
  · intro h
    have hlength : (operandRecipe d).expected.length = natAt d 7 := by
      rw [expected_operandRecipe h.cavities.2, List.length_map, List.length_range]
    exact ⟨h.mode, h.cavities, hlength, (counts_operandRecipe h.cavities.2).2 h.counts, h.weights, h.ta, h.eMin, h.heatDose, h.dwell, h.tolU,
      h.tolO, h.pb, rfl, (offsets_operandRecipe d).2 h.offsets, h.batchSize⟩
  · rintro ⟨hmode, h⟩
    exact ⟨h.cavities, (counts_operandRecipe h.cavities.2).1 h.counts, h.weights, h.ta, h.eMin, h.heatDose, h.dwell, h.tolU, h.tolO, h.pb,
      (offsets_operandRecipe d).1 h.offsets, h.batchSize, hmode⟩

/-- What LOAD_RECIPE stores: the operand's recipe, where every field is in its range (R63). -/
theorem taken_of_inRange {d : List Byte} (h : OperandInRange d) : (recipeOf d 3).filter Recipe.inRange = some (operandRecipe d) := by
  obtain ⟨hmode, hrange⟩ := (operandInRange_iff d).1 h
  rw [recipeOf_of_mode hmode, Option.filter_some, if_pos hrange]

theorem taken_of_not_inRange {d : List Byte} (h : ¬ OperandInRange d) : (recipeOf d 3).filter Recipe.inRange = none := by
  rw [Option.filter_eq_none_iff]
  rintro r hr hrange
  obtain ⟨hmode, rfl⟩ := recipeOf_eq_some_iff.1 hr
  exact h ((operandInRange_iff d).2 ⟨hmode, hrange⟩)

/-! ## Read back -/

/-- The bytes of a recipe before its offsets (R158). -/
def Recipe.headBytes (r : Recipe) : List Byte :=
  bytes32 r.sku ++ (byteOf r.cavities :: (pack8 r.expected ++ (nat16 r.wMin ++ (nat16 r.wMax ++ (byteOf r.ta :: (nat16 r.eMin ++
    (nat16 r.heatDose ++ (nat16 r.dMin ++ (nat16 r.dMax ++ [byteOf r.tolU, byteOf r.tolO, byteOf r.pb])))))))))

theorem Recipe.length_headBytes (r : Recipe) : r.headBytes.length = 25 := rfl

theorem Recipe.bytes_eq (r : Recipe) :
    r.bytes = r.headBytes ++ (padTo 8 (r.offsets.map signedByte) ++ [byteOf r.batchSize, r.closeMode.code]) := by
  simp only [Recipe.bytes, Recipe.headBytes, List.append_assoc, List.cons_append, List.nil_append]

/-- The bytes `d` hold the fields of `r` from byte `k` on (R158). -/
structure HoldsRecipe (d : List Byte) (k : Nat) (r : Recipe) : Prop where
  head : ∀ i < 25, byteAt d (k + i) = byteAt r.headBytes i
  offsets : ∀ j < 8, byteAt d (k + 25 + j) = byteAt (padTo 8 (r.offsets.map signedByte)) j
  batchSize : byteAt d (k + 33) = byteOf r.batchSize
  mode : byteAt d (k + 34) = r.closeMode.code

theorem byteAt_append_of_length {xs ys : List Byte} {n m i : Nat} (h : xs.length = n) (hm : m = n + i) : byteAt (xs ++ ys) m = byteAt ys i := by
  subst h hm
  exact byteAt_append_right xs ys i

theorem holdsRecipe_bytes (r : Recipe) (before after : List Byte) : HoldsRecipe (before ++ r.bytes ++ after) before.length r := by
  have hoffsets := length_padTo 8 (r.offsets.map signedByte)
  rw [Recipe.bytes_eq, List.append_assoc, List.append_assoc, List.append_assoc]
  refine ⟨fun i hi => ?_, fun j hj => ?_, ?_, ?_⟩
  · rw [byteAt_append_right, byteAt_append_left _ (by rw [r.length_headBytes]; exact hi)]
  · rw [Nat.add_assoc, byteAt_append_right, byteAt_append_of_length r.length_headBytes rfl, byteAt_append_left _ (by omega)]
  · rw [byteAt_append_right, byteAt_append_of_length (i := 8) r.length_headBytes rfl, byteAt_append_of_length (i := 0) hoffsets rfl]
    rfl
  · rw [byteAt_append_right, byteAt_append_of_length (i := 9) r.length_headBytes rfl, byteAt_append_of_length (i := 1) hoffsets rfl]
    rfl

section
variable {d : List Byte} {k : Nat} {r : Recipe}

theorem HoldsRecipe.natAt_eq (h : HoldsRecipe d k r) {i n : Nat} (hi : i < 25) (hn : n < 256) (hbyte : byteAt r.headBytes i = byteOf n) :
    natAt d (k + i) = n := by
  rw [natAt, h.head i hi, hbyte, toNat_byteOf hn]

theorem HoldsRecipe.nat16At_eq (h : HoldsRecipe d k r) {i n : Nat} (hi : i < 24) (hn : n < 65536)
    (hword : word16 r.headBytes i = word16 (nat16 n) 0) : nat16At d (k + i) = n := by
  have hcongr : word16 d (k + i) = word16 r.headBytes i :=
    word16_congr fun m hm => by rw [Nat.add_assoc]; exact h.head (i + m) (by omega)
  rw [nat16At, hcongr, hword]
  exact nat16At_nat16 n hn

theorem HoldsRecipe.word32_eq (h : HoldsRecipe d k r) : word32 d k = r.sku := by
  have hcongr : word32 d k = word32 r.headBytes 0 := word32_congr fun m hm => by rw [Nat.zero_add]; exact h.head m (by omega)
  rw [hcongr]
  exact word32_bytes32 r.sku

theorem Recipe.byteAt_counts (r : Recipe) :
    ∀ i < 4, byteAt r.headBytes (5 + i) = byteOf (16 * r.expected.getD (2 * i) 0 + r.expected.getD (2 * i + 1) 0)
  | 0, _ | 1, _ | 2, _ | 3, _ => rfl

theorem getD_le {xs : List Nat} {b : Nat} (h : ∀ n ∈ xs, n ≤ b) (i : Nat) : xs.getD i 0 ≤ b := by
  rw [List.getD_eq_getElem?_getD]
  cases hx : xs[i]? with
  | none => exact Nat.zero_le b
  | some n => exact h n (List.mem_of_getElem? hx)

theorem HoldsRecipe.packedCount_eq (h : HoldsRecipe d k r) (hr : r.InRange) {j : Nat} (hj : j < 8) :
    packedCount d (k + 5) j = r.expected.getD j 0 := by
  have hle : ∀ i, r.expected.getD i 0 ≤ 15 := getD_le fun n hn => (hr.counts n hn).2
  have heven := hle (2 * (j / 2))
  have hodd := hle (2 * (j / 2) + 1)
  have hbyte : natAt d (k + 5 + j / 2) = 16 * r.expected.getD (2 * (j / 2)) 0 + r.expected.getD (2 * (j / 2) + 1) 0 := by
    rw [Nat.add_assoc]
    exact h.natAt_eq (by omega) (by omega) (r.byteAt_counts _ (by omega))
  rw [packedCount, hbyte]
  split
  · rw [show 2 * (j / 2) = j by omega] at heven hodd ⊢
    omega
  · rw [show 2 * (j / 2) + 1 = j by omega] at hodd ⊢
    omega

theorem HoldsRecipe.expected_eq (h : HoldsRecipe d k r) (hr : r.InRange) : (counts8 d (k + 5)).take r.cavities = r.expected := by
  have hcavities := hr.cavities
  rw [take_counts8, Nat.min_eq_left hcavities.2]
  refine map_range_eq hr.length fun j hj => ?_
  rw [h.packedCount_eq hr (by have := hr.length; omega), List.getD_eq_getElem _ _ hj]

theorem HoldsRecipe.offsets_eq (h : HoldsRecipe d k r) (hr : r.InRange) :
    (List.range 8).map (fun j => signedOf (byteAt d (k + 25 + j))) = r.offsets := by
  have hlength : (r.offsets.map signedByte).length = 8 := (List.length_map _).trans hr.segments
  refine map_range_eq hr.segments fun j hj => ?_
  have hbyte : byteAt (r.offsets.map signedByte) j = signedByte r.offsets[j] := by
    rw [byteAt, List.getD_eq_getElem _ _ (by rwa [List.length_map]), List.getElem_map]
  have hrange := hr.offsets _ (List.getElem_mem hj)
  rw [h.offsets j (by have := hr.segments; omega), padTo_of_length hlength, hbyte, signedOf_signedByte (by omega)]

/-- The fields read back from the bytes that hold them (R65, R158). -/
theorem HoldsRecipe.recipeOf_eq (h : HoldsRecipe d k r) (hr : r.InRange) : recipeOf d k = some r := by
  have hbatch : natAt d (k + 33) = r.batchSize := by
    have := hr.batchSize
    rw [natAt, h.batchSize, toNat_byteOf (by omega)]
  have hcavities : natAt d (k + 4) = r.cavities := h.natAt_eq (by omega) (by have := hr.cavities; omega) rfl
  have hwMin : nat16At d (k + 9) = r.wMin := h.nat16At_eq (by omega) (by have := hr.weights; omega) rfl
  have hwMax : nat16At d (k + 11) = r.wMax := h.nat16At_eq (by omega) (by have := hr.weights; omega) rfl
  have hta : natAt d (k + 13) = r.ta := h.natAt_eq (by omega) (by have := hr.ta; omega) rfl
  have heMin : nat16At d (k + 14) = r.eMin := h.nat16At_eq (by omega) (by have := hr.eMin; omega) rfl
  have hheatDose : nat16At d (k + 16) = r.heatDose := h.nat16At_eq (by omega) (by have := hr.heatDose; omega) rfl
  have hdMin : nat16At d (k + 18) = r.dMin := h.nat16At_eq (by omega) (by have := hr.dwell; omega) rfl
  have hdMax : nat16At d (k + 20) = r.dMax := h.nat16At_eq (by omega) (by have := hr.dwell; omega) rfl
  have htolU : natAt d (k + 22) = r.tolU := h.natAt_eq (by omega) (by have := hr.tolU; omega) rfl
  have htolO : natAt d (k + 23) = r.tolO := h.natAt_eq (by omega) (by have := hr.tolO; omega) rfl
  have hpb : natAt d (k + 24) = r.pb := h.natAt_eq (by omega) (by have := hr.pb; omega) rfl
  rw [recipeOf, h.mode, closeModeOf_code, Option.map_some, h.word32_eq, hcavities, h.expected_eq hr, hwMin, hwMax, hta, heMin, hheatDose, hdMin,
    hdMax, htolU, htolO, hpb, h.offsets_eq hr, hbatch]

end

end Sys2Proof.Machine

namespace Sys2Proof.Proofs

open Sys2Proof.Machine Sys2Proof.Safety

/-- Settles O43: a recipe is recovered part by part from its bytes, and the operand's recipe is given field by field. -/
theorem recipeOperandRoundTrip : Obligations.RecipeOperandRoundTrip := by
  refine ⟨fun r before after hr => (holdsRecipe_bytes r before after).recipeOf_eq (r.inRange_iff.1 hr), fun d => ?_, fun d r h => ?_⟩
  · by_cases hmode : natAt d 37 = 0 ∨ 3 < natAt d 37
    · exact iff_of_true (recipeOf_of_no_mode hmode) hmode
    · exact iff_of_false (by rw [recipeOf_of_mode (by omega)]; exact Option.some_ne_none _) hmode
  · obtain ⟨hmode, rfl⟩ := recipeOf_eq_some_iff.1 h
    refine ⟨?_, ?_, rfl, rfl, rfl, rfl, rfl, rfl, rfl, rfl, rfl, rfl, rfl, rfl, rfl, rfl, fun j hj hj8 => ?_, fun j hj => ?_⟩
    · exact (toNat_code_modeOfCode hmode).symm.trans (CloseMode.toNat_code _)
    · exact (List.length_map _).trans List.length_range
    · exact getD_map_range _ 0 (Nat.lt_min.2 ⟨hj, hj8⟩)
    · exact getD_map_range _ 0 hj

end Sys2Proof.Proofs
end

section
/-! PROOFS. LOAD_RECIPE in the order of its table (R63). -/

namespace Sys2Proof.Machine

open Sys2Proof.Safety

/-- The operand of a LOAD_RECIPE is well formed: a recipe or a CLEAR, with no data behind it (R63, R157). -/
def LoadOperand (d : List Byte) : Prop := natAt d 2 = 1 ∧ restZero d 38 = true ∨ natAt d 2 = 2 ∧ restZero d 3 = true

theorem loadRecipeMalformed_eq_false_iff (d : List Byte) : loadRecipeMalformed d = false ↔ LoadOperand d := by
  unfold loadRecipeMalformed LoadOperand
  split
  · simp_all
  · simp_all
  · simp_all

theorem decideLoadRecipe_of_malformed {d : List Byte} {s : State} (h : ¬ LoadOperand d) : decideLoadRecipe d s = refuseFormat s :=
  if_pos (by simpa using mt (loadRecipeMalformed_eq_false_iff d).1 h)

theorem decideLoadRecipe_of_no_entry {d : List Byte} {s : State} (hd : LoadOperand d) (h : 1 < natAt d 0 ∨ 15 < natAt d 1) :
    decideLoadRecipe d s = refuse .refusedRange [] s := by
  rw [decideLoadRecipe, if_neg (by simp [(loadRecipeMalformed_eq_false_iff d).2 hd])]
  rcases names_no_entry h with hnone | hnone
  · rw [hnone]
  · rw [hnone]
    cases bankOf (byteAt d 0) <;> rfl

/-- What LOAD_RECIPE decides for the entry `n` of bank `b` (R63). -/
def loadEntry (d : List Byte) (b : Bank) (n : EntryNo) (s : State) : Answer :=
  if b = s.active then refuse .refusedState (s.recipeReply b n) s
  else if 0 < (s.entry b n).refs then refuse .refusedInUse (s.recipeReply b n) s
  else if natAt d 2 = 2 then
    let t := s.setEntry b n { s.entry b n with recipe := none }
    ⟨.done, t.recipeReply b n, t⟩
  else
    match (recipeOf d 3).filter Recipe.inRange with
    | none => refuse .refusedRange (s.recipeReply b n) s
    | some r =>
      let t := s.setEntry b n { s.entry b n with recipe := some r }
      ⟨.done, t.recipeReply b n, t⟩

section
variable {d : List Byte} {b : Bank} {n : EntryNo} {s : State}

theorem decideLoadRecipe_of_entry (hd : LoadOperand d) (hn : NamesEntry d b n) : decideLoadRecipe d s = loadEntry d b n s := by
  rw [decideLoadRecipe, if_neg (by simp [(loadRecipeMalformed_eq_false_iff d).2 hd]), hn.bankOf, hn.entryOf]
  rfl

theorem loadEntry_of_active (h : b = s.active) : loadEntry d b n s = refuse .refusedState (s.recipeReply b n) s := if_pos h

theorem loadEntry_of_referenced (h : b ≠ s.active) (hrefs : 0 < (s.entry b n).refs) :
    loadEntry d b n s = refuse .refusedInUse (s.recipeReply b n) s := by
  rw [loadEntry, if_neg h, if_pos hrefs]

theorem Entry.eq_of_free {e : Entry} (h : e.refs = 0) (r : Option Recipe) : { e with recipe := r } = (⟨r, 0⟩ : Entry) := by
  rw [← h]

theorem loadEntry_of_clear (h : b ≠ s.active) (hrefs : (s.entry b n).refs = 0) (hkind : natAt d 2 = 2) :
    loadEntry d b n s = ⟨.done, (s.setEntry b n ⟨none, 0⟩).recipeReply b n, s.setEntry b n ⟨none, 0⟩⟩ := by
  rw [loadEntry, if_neg h, if_neg (by omega), if_pos hkind, Entry.eq_of_free hrefs]

theorem loadEntry_of_not_inRange (h : b ≠ s.active) (hrefs : (s.entry b n).refs = 0) (hkind : natAt d 2 = 1) (hr : ¬ OperandInRange d) :
    loadEntry d b n s = refuse .refusedRange (s.recipeReply b n) s := by
  rw [loadEntry, if_neg h, if_neg (by omega), if_neg (by omega), taken_of_not_inRange hr]

theorem loadEntry_of_inRange (h : b ≠ s.active) (hrefs : (s.entry b n).refs = 0) (hkind : natAt d 2 = 1) (hr : OperandInRange d) :
    loadEntry d b n s =
      ⟨.done, (s.setEntry b n ⟨some (operandRecipe d), 0⟩).recipeReply b n, s.setEntry b n ⟨some (operandRecipe d), 0⟩⟩ := by
  rw [loadEntry, if_neg h, if_neg (by omega), if_neg (by omega), taken_of_inRange hr]
  simp only [Entry.eq_of_free hrefs]

/-- The reply to a request that wrote the entry (R63). -/
theorem NamesEntry.recipeReply_setEntry (hn : NamesEntry d b n) (e : Entry) :
    (s.setEntry b n e).recipeReply b n = [byteAt d 0, byteAt d 1, e.stateByte, byteOf e.refs] := by
  rw [hn.recipeReply, State.entry_setEntry_self]

end

theorem Entry.stateByte_eq (e : Entry) : e.stateByte = if e.recipe.isSome then 1 else 0 := rfl

theorem State.setEntry_frame (s : State) (b : Bank) (n : EntryNo) (e : Entry) :
    { s.setEntry b n e with bankA := s.bankA, bankB := s.bankB } = s := by
  cases b <;> rfl

end Sys2Proof.Machine

namespace Sys2Proof.Proofs

open Sys2Proof.Machine Sys2Proof.Safety

/-- Settles O42: the frame of writing an entry, and the table of R63 row by row. -/
theorem loadRecipeWritesEntry : Obligations.LoadRecipeWritesEntry := by
  refine ⟨fun b n e s => ⟨s.entry_setEntry_self b n e, fun c m h => s.entry_setEntry_ne e (h.imp Ne.symm Ne.symm), s.setEntry_frame b n e⟩,
    fun f rest s h => ?_⟩
  intro d x kind malformed count inRange r
  have hrange : inRange ↔ OperandInRange d := by
    refine ⟨fun hr => ?_, fun hr => ?_⟩
    · obtain ⟨⟨hc1, hc8, hcounts⟩, hw, hta, hem, hhd, hd, hu, ho, hpb, hoff, hbs, hmode⟩ := hr
      exact ⟨⟨hc1, hc8⟩, hcounts, hw, hta, hem, hhd, hd, hu, ho, hpb, hoff, hbs, hmode⟩
    · exact ⟨⟨hr.cavities.1, hr.cavities.2, hr.counts⟩, hr.weights, hr.ta, hr.eMin, hr.heatDose, hr.dwell, hr.tolU, hr.tolO, hr.pb, hr.offsets,
        hr.batchSize, hr.mode⟩
  have hrecipe : OperandInRange d → r = operandRecipe d := fun hr => by
    rw [operandRecipe, Nat.min_eq_left hr.cavities.2]
    rfl
  refine ⟨fun hd => serve_decided h (decideLoadRecipe_of_malformed hd) rfl,
    fun hd hno => serve_decided h (decideLoadRecipe_of_no_entry (not_not.1 hd) hno) rfl, fun b n hd hb hn => ?_⟩
  intro e kept
  have hnames : NamesEntry d b n := ⟨hb, hn⟩
  have hkept : s.recipeReply b n = kept := hnames.recipeReply s
  have hdecide : decideLoadRecipe d s = loadEntry d b n s := decideLoadRecipe_of_entry (not_not.1 hd) hnames
  refine ⟨fun ha => ?_, fun ha hrefs => ?_, fun ha hrefs hkind hr => ?_, fun ha hrefs hkind hr => ?_, fun ha hrefs hkind => ?_⟩
  · rw [loadEntry_of_active ha, hkept] at hdecide
    exact serve_decided h hdecide rfl
  · rw [loadEntry_of_referenced ha hrefs, hkept] at hdecide
    exact serve_decided h hdecide rfl
  · rw [loadEntry_of_not_inRange ha hrefs hkind (mt hrange.2 hr), hkept] at hdecide
    exact serve_decided h hdecide rfl
  · rw [loadEntry_of_inRange ha hrefs hkind (hrange.1 hr), hnames.recipeReply_setEntry] at hdecide
    rw [hrecipe (hrange.1 hr)]
    exact serve_decided h hdecide (s.setEntry_buffer b n _)
  · rw [loadEntry_of_clear ha hrefs hkind, hnames.recipeReply_setEntry] at hdecide
    exact serve_decided h hdecide (s.setEntry_buffer b n _)

end Sys2Proof.Proofs
end

section
/-! PROOFS. The report slot of a kind and lane, and what a report does to the expected card and to the silence counter (R74 to R76, R81,
R82, R84, R149, R153). -/

namespace Sys2Proof.Proofs

open Sys2Proof.Machine Sys2Proof.Safety

/-! ## The report slot -/

/-- A mapped report slot is read where it lies within the frame's slot count (R74, R149). -/
theorem reportSlot_of_mapped {f : Frame} {kind : Kind} {l : Lane} {s : State} {i : Nat} (h : s.slotOf (.report kind l) = some i) :
    s.reportSlot f kind l = if i < slotCount f then slotBytes f i else [] := by
  rw [State.reportSlot, h]

theorem reportSlot_of_unmapped {f : Frame} {kind : Kind} {l : Lane} {s : State} (h : s.slotOf (.report kind l) = none) :
    s.reportSlot f kind l = [] := by
  rw [State.reportSlot, h]

/-! ## The expected card -/

/-- No report is due where no card of the lane is formed at the expected index with the kind commanded (R75). -/
theorem dueCard_eq_none {s : State} {l : Lane} {kind : Kind} {k : Index}
    (h : ∀ c ∈ (s.lane l).web, ¬ (c.formed = s.expectedFormed kind k ∧ c.commanded.has kind = true)) : s.dueCard l kind k = none := by
  rw [State.dueCard, Option.filter_eq_none_iff]
  intro c hc hhas
  have hfound : findFormed (s.lane l).web (s.expectedFormed kind k) = some c := hc
  exact h c (List.mem_of_find?_eq_some hfound) ⟨by simpa using List.find?_some hfound, hhas⟩

theorem dueCard_eq_some {s : State} {l : Lane} {kind : Kind} {k : Index} {before after : List Card} {c : Card}
    (hweb : (s.lane l).web = before ++ c :: after) (hne : ∀ x ∈ before ++ after, x.formed ≠ c.formed)
    (hformed : c.formed = s.expectedFormed kind k) (hhas : c.commanded.has kind = true) : s.dueCard l kind k = some c := by
  rw [State.dueCard, State.cardFormed, hweb, ← hformed, findFormed_append_cons hne rfl, Option.filter_some, if_pos hhas]

/-! ## A report judged -/

/-- The state with the card of lane `l` formed as `c` is marked, and the kind's silence counter moved by the verdict (R76, R84). -/
def judged (s : State) (l : Lane) (kind : Kind) (c : Card) (mark : Card → Card) (v : Verdict) : State :=
  (s.updCard l c.formed mark).updLane l (fun r => { r with silence := r.silence.upd kind (silenceAfter v) })

theorem applyReport_of_not_due {s : State} {f : Frame} {l : Lane} {k : Index} {kind : Kind} (h : s.dueCard l kind k = none) :
    s.applyReport f l k kind = s := by
  rw [State.applyReport, h]

theorem applyReport_of_accepted {s : State} {f : Frame} {l : Lane} {k : Index} {kind : Kind} {c : Card} (h : s.dueCard l kind k = some c)
    (hm : reportMatches (s.reportSlot f kind l) kind c.serial = true) :
    s.applyReport f l k kind = judged s l kind c (Card.accept kind (s.recipeOf c) (slotPayload (s.reportSlot f kind l)))
      (acceptedVerdict kind (slotPayload (s.reportSlot f kind l))) := by
  rw [State.applyReport, h]
  simp only [hm, if_true]
  rfl

theorem applyReport_of_silent {s : State} {f : Frame} {l : Lane} {k : Index} {kind : Kind} {c : Card} (h : s.dueCard l kind k = some c)
    (hm : reportMatches (s.reportSlot f kind l) kind c.serial = false) :
    s.applyReport f l k kind = judged s l kind c (Card.addReason (silentReason kind)) .silent := by
  rw [State.applyReport, h]
  simp only [hm, Bool.false_eq_true, if_false]
  rfl

section
variable (s : State) (l : Lane) (kind : Kind) (c : Card) (mark : Card → Card) (v : Verdict)

theorem lane_judged_self : (judged s l kind c mark v).lane l = { s.lane l with
    web := (s.lane l).web.map (fun x => if x.formed = c.formed then mark x else x)
    silence := (s.lane l).silence.upd kind (silenceAfter v) } := by
  rw [judged, State.lane_updLane_self, State.updCard, State.mapWeb, State.lane_updLane_self]

theorem lane_judged_ne {m : Lane} (h : m ≠ l) : (judged s l kind c mark v).lane m = s.lane m := by
  rw [judged, State.lane_updLane_ne _ _ h.symm, State.updCard, State.mapWeb, State.lane_updLane_ne _ _ h.symm]

/-- The web list and the silence counters of the one lane are all that changes (R76, R84). -/
theorem judged_frame : { (judged s l kind c mark v).lane l with web := (s.lane l).web, silence := (s.lane l).silence } = s.lane l ∧
    (∀ m, m ≠ l → (judged s l kind c mark v).lane m = s.lane m) ∧ { judged s l kind c mark v with lanes := s.lanes } = s :=
  ⟨by rw [lane_judged_self], fun _ => lane_judged_ne s l kind c mark v, rfl⟩

end

theorem web_judged {s : State} {l : Lane} {before after : List Card} {c : Card} (kind : Kind) (mark : Card → Card) (v : Verdict)
    (hweb : (s.lane l).web = before ++ c :: after) (hne : ∀ x ∈ before ++ after, x.formed ≠ c.formed) :
    ((judged s l kind c mark v).lane l).web = before ++ mark c :: after := by
  rw [lane_judged_self, hweb]
  exact map_formed_append_cons mark hne rfl

/-- What an accepted report does to the silence counter: a seal report with contact "no" raises it (R81, R84). -/
theorem silenceAfter_acceptedVerdict (kind : Kind) (payload : List Byte) : silenceAfter (acceptedVerdict kind payload) =
    fun n => if kind = .sealing ∧ byteAt payload 3 ≠ 0x01 then min (n + 1) 15 else 0 := by
  have hcontact : yesField (byteAt payload 3) = false ↔ byteAt payload 3 ≠ 0x01 := by
    rw [Ne, ← yesField_iff, Bool.not_eq_true]
  funext n
  simp only [acceptedVerdict, hcontact]
  split <;> rfl

/-- Settles O19: the slot by whether it is mapped within the frame, the report by whether it is due and matches. -/
theorem dueReportOutcome : Obligations.DueReportOutcome := by
  refine ⟨rfl, fun _ => rfl, fun _ _ => ⟨rfl, rfl, rfl, rfl⟩, fun f l kind s => ⟨fun hmap => ?_, fun i hi hfirst => ?_⟩,
    fun f k l kind s _ _ => ⟨fun hnone => applyReport_of_not_due (dueCard_eq_none hnone), ?_⟩⟩
  · rw [reportSlot_of_unmapped (s.slotOf_eq_none _ hmap)]
    rfl
  · rw [reportSlot_of_mapped (s.slotOf_eq_some _ i hi hfirst)]
    refine ⟨fun h => if_pos h, fun h => ?_⟩
    rw [if_neg (Nat.not_lt.2 h)]
    rfl
  · intro before after c hweb hne hformed hhas slot payload accepted t
    have hdue : s.dueCard l kind k = some c := dueCard_eq_some hweb hne hformed hhas
    have hmatches : reportMatches slot kind c.serial = true ↔ accepted := by
      rw [reportMatches, Bool.and_eq_true, decide_eq_true_iff, decide_eq_true_iff]
    cases hm : reportMatches slot kind c.serial with
    | true =>
      have ht : t = _ := applyReport_of_accepted hdue hm
      rw [ht]
      refine ⟨fun _ => ⟨web_judged _ _ _ hweb hne, ?_⟩, fun hnot => absurd (hmatches.1 hm) hnot, judged_frame ..⟩
      rw [lane_judged_self, silenceAfter_acceptedVerdict]
    | false =>
      have ht : t = _ := applyReport_of_silent hdue hm
      rw [ht]
      refine ⟨fun hyes => absurd (hmatches.2 hyes) (by simp [hm]), fun _ => ⟨web_judged _ _ _ hweb hne, ?_⟩, judged_frame ..⟩
      rw [lane_judged_self]
      rfl

end Sys2Proof.Proofs
end

section
/-! PROOFS. The scopes of the alarm requests, what clearing latches leaves, and the stop request after it (R172, R174, R177). -/

namespace Sys2Proof.Machine

open Sys2Proof.Safety

/-! ## Scopes -/

/-- The number of the byte that names a scope (R174, R175). -/
def Scope.number : Scope → Nat
  | .lane l => l
  | .chip => 254
  | .all => 255

theorem scopeOf_number (sc : Scope) : scopeOf sc.number = some sc := by
  cases sc with
  | lane l =>
    rw [Scope.number, scopeOf, if_neg (by omega), if_neg (by omega), Proofs.laneOf_val]
    rfl
  | chip => rfl
  | all => rfl

theorem Scope.eq_of_number_eq {sc sd : Scope} (h : sc.number = sd.number) : sc = sd :=
  Option.some.inj ((scopeOf_number sc).symm.trans ((congrArg scopeOf h).trans (scopeOf_number sd)))

theorem scopeOf_of_no_scope {n : Nat} (h5 : 5 < n) (h : n < 254) : scopeOf n = none := by
  rw [scopeOf, if_neg (by omega), if_neg (by omega), Proofs.laneOf_eq_none h5]
  rfl

theorem exists_scope_number {n : Nat} (hn : n < 256) (h : n < 6 ∨ 254 ≤ n) : ∃ sc : Scope, n = sc.number := by
  obtain h6 | rfl | rfl : n < 6 ∨ n = 254 ∨ n = 255 := by omega
  · exact ⟨.lane ⟨n, h6⟩, rfl⟩
  · exact ⟨.chip, rfl⟩
  · exact ⟨.all, rfl⟩

/-! ## Active indications -/

theorem State.zoneFaultActive_iff (s : State) (l : Lane) :
    s.zoneFaultActive l = true ↔ (s.zone l).state = .fault ∧ (s.lane l).state ≠ .idle := by
  rw [State.zoneFaultActive, Bool.and_eq_true, decide_eq_true_iff, decide_eq_true_iff]

/-- Only the two condition alarms of a lane are ever active (R172). -/
theorem State.laneActive_iff (s : State) (l : Lane) (i : Fin 7) : s.laneActive l i = true ↔
    i = 0 ∧ (s.lane l).stationLost = true ∨ i = 1 ∧ (s.zone l).state = .fault ∧ (s.lane l).state ≠ .idle := by
  rw [← s.zoneFaultActive_iff]
  unfold State.laneActive
  by_cases h0 : i = 0
  · subst h0
    simp
  · by_cases h1 : i = 1
    · subst h1
      simp
    · have hi0 : (i : Nat) ≠ 0 := fun h => h0 (Fin.ext h)
      have hi1 : (i : Nat) ≠ 1 := fun h => h1 (Fin.ext h)
      simp [h0, h1, hi0, hi1]

/-! ## Clearing latches -/

/-- A lane record with the latches cleared whose alarms are not active (R174). -/
def LaneRec.clearLatches (active : Nat → Bool) (r : LaneRec) : LaneRec :=
  { r with alarms := r.alarms.mapIdx (fun i a => a.clear (active i)) }

theorem State.clearLaneLatches_eq (s : State) (l : Lane) : s.clearLaneLatches l = s.updLane l (LaneRec.clearLatches (s.laneActive l)) := rfl

theorem State.lane_clearChipLatches (s : State) (l : Lane) : s.clearChipLatches.lane l = s.lane l := rfl

/-- Clearing latches changes no active indication (R172, R174). -/
theorem State.laneActive_clearLaneLatches (s : State) (l m : Lane) : (s.clearLaneLatches l).laneActive m = s.laneActive m := by
  funext i
  have hlost : ((s.clearLaneLatches l).lane m).stationLost = (s.lane m).stationLost :=
    State.lane_updLane_proj LaneRec.stationLost s l m _ (fun _ => rfl)
  have hstate : ((s.clearLaneLatches l).lane m).state = (s.lane m).state := State.lane_updLane_proj LaneRec.state s l m _ (fun _ => rfl)
  have hzone : (s.clearLaneLatches l).zone m = s.zone m := rfl
  simp only [State.laneActive, State.zoneFaultActive, hlost, hstate, hzone]

/-- Each lane of the scope has the latches cleared whose alarms are not active, all against the state as it stood (R174). -/
theorem State.lane_clearLatches (s : State) (sc : Scope) (l : Lane) : (s.clearLatches sc).lane l =
    if sc.number = l ∨ sc.number = 255 then (s.lane l).clearLatches (s.laneActive l) else s.lane l := by
  have hl := l.isLt
  cases sc with
  | lane m =>
    have hm := m.isLt
    show (s.clearLaneLatches m).lane l = _
    rw [State.clearLaneLatches_eq, State.lane_updLane]
    simp only [Scope.number, Fin.val_inj, show (m : Nat) ≠ 255 by omega, or_false]
    split
    · next h => rw [h]
    · rfl
  | chip =>
    rw [if_neg (by simp only [Scope.number]; omega)]
    rfl
  | all =>
    rw [if_pos (.inr rfl), State.clearLatches, State.lane_clearChipLatches]
    have hown : ∀ m (t : State), t.laneActive = s.laneActive →
        (t.clearLaneLatches m).lane m = (t.lane m).clearLatches (s.laneActive m) := fun m t ht => by
      rw [State.clearLaneLatches_eq, State.lane_updLane_self, ht]
    exact State.lane_eachLane_local (g := fun m => LaneRec.clearLatches (s.laneActive m))
      (fun m t ht => (funext (t.laneActive_clearLaneLatches m)).trans ht) hown
      (fun m _ t _ h => t.lane_updLane_ne _ h) rfl l

theorem State.chipAlarms_clearLatches (s : State) (sc : Scope) :
    (s.clearLatches sc).chipAlarms = if 254 ≤ sc.number then s.chipAlarms.map (Alarm.clear false) else s.chipAlarms := by
  cases sc with
  | lane m =>
    rw [if_neg (by simp only [Scope.number]; omega)]
    rfl
  | chip => rfl
  | all =>
    have h : (s.eachLane (fun l t => t.clearLaneLatches l)).chipAlarms = s.chipAlarms :=
      State.eachLane_keeps (fun t => t.chipAlarms = s.chipAlarms) _ s rfl fun _ _ ht => ht
    exact congrArg (Vector.map (Alarm.clear false)) h

theorem State.clearLatches_frame (s : State) (sc : Scope) : { s.clearLatches sc with lanes := s.lanes, chipAlarms := s.chipAlarms } = s := by
  cases sc with
  | lane m => rfl
  | chip => rfl
  | all =>
    have h : ({ s.eachLane (fun l t => t.clearLaneLatches l) with lanes := s.lanes } : State) = s :=
      State.eachLane_keeps (fun t => ({ t with lanes := s.lanes } : State) = s) _ s rfl fun _ _ ht => ht
    exact congrArg (fun t : State => { t with chipAlarms := s.chipAlarms }) h

/-- Of a lane record the alarms are all that changes (R174). -/
theorem State.laneFrame_clearLatches (s : State) (sc : Scope) (l : Lane) :
    { (s.clearLatches sc).lane l with alarms := (s.lane l).alarms } = s.lane l := by
  rw [State.lane_clearLatches]
  split <;> rfl

/-- The alarms of a lane after the clearing, one by one (R174). -/
theorem State.laneAlarm_clearLatches (s : State) (sc : Scope) (l : Lane) (i : Fin 7) : ((s.clearLatches sc).lane l).alarms[i] =
    if (sc.number = l ∨ sc.number = 255) ∧ s.laneActive l i = false then { (s.lane l).alarms[i] with latch := none }
    else (s.lane l).alarms[i] := by
  rw [State.lane_clearLatches, ite_and]
  split
  · simp only [LaneRec.clearLatches, Fin.getElem_fin, Vector.getElem_mapIdx]
    cases s.laneActive l i <;> rfl
  · rfl

/-- The chip's alarms after the clearing: they are events and never active (R172, R174). -/
theorem State.chipAlarm_clearLatches (s : State) (sc : Scope) (i : Fin 6) : (s.clearLatches sc).chipAlarms[i] =
    if 254 ≤ sc.number then { s.chipAlarms[i] with latch := none } else s.chipAlarms[i] := by
  rw [State.chipAlarms_clearLatches]
  split
  · simp only [Fin.getElem_fin, Vector.getElem_map]
    rfl
  · rfl

/-! ## The stop request -/

theorem any_toList_iff {α : Type} {n : Nat} (v : Vector α n) (p : α → Bool) : v.toList.any p = true ↔ ∃ i : Fin n, p v[i] = true := by
  rw [Vector.any_toList, Vector.any_eq_true, Fin.exists_iff]
  rfl

/-- The stop request is present while some alarm's latch reaches it (R177). -/
theorem State.stopPresent_iff (s : State) : s.stopPresent = true ↔
    (∃ (l : Lane) (i : Fin 7), (s.lane l).alarms[i].stops = true) ∨ ∃ i : Fin 6, s.chipAlarms[i].stops = true := by
  simp only [State.stopPresent, Bool.or_eq_true, List.any_eq_true (l := List.finRange 6), List.mem_finRange, true_and, any_toList_iff]

/-- A cleared latch does not reach the stop request (R177). -/
theorem Alarm.stops_of_clear_if {c : Prop} [Decidable c] {a : Alarm} (h : (if c then { a with latch := none } else a).stops = true) :
    a.stops = true := by
  split at h
  · cases h
  · exact h

/-- Clearing latches makes no stop request present (R177). -/
theorem State.stopPresent_of_clearLatches {s : State} {sc : Scope} (h : (s.clearLatches sc).stopPresent = true) : s.stopPresent = true := by
  rw [State.stopPresent_iff] at h ⊢
  obtain ⟨l, i, hi⟩ | ⟨i, hi⟩ := h
  · rw [State.laneAlarm_clearLatches] at hi
    exact .inl ⟨l, i, Alarm.stops_of_clear_if hi⟩
  · rw [State.chipAlarm_clearLatches] at hi
    exact .inr ⟨i, Alarm.stops_of_clear_if hi⟩

/-- Where a reason stands for a present stop request, it is kept while the request is present and else becomes 0 (R177). -/
theorem State.settleStop_eq {s : State} (h : s.stopPresent = true → s.stopReason ≠ 0) :
    s.settleStop = { s with stopReason := if s.stopPresent = true then s.stopReason else 0 } := by
  unfold State.settleStop
  split
  · next hp => rw [if_neg (h hp)]
  · rfl

/-- The state after READ_ALARMS: its scope's latches cleared, and the stop reason gone with the last of them (R174, R177). -/
theorem State.settleStop_clearLatches {s : State} (hs : StopSound s) (sc : Scope) : (s.clearLatches sc).settleStop =
    { s.clearLatches sc with stopReason := if (s.clearLatches sc).stopPresent = true then s.stopReason else 0 } := by
  have hreason : (s.clearLatches sc).stopReason = s.stopReason := (congrArg State.stopReason (s.clearLatches_frame sc) :)
  rw [State.settleStop_eq (fun hp => by rw [hreason]; exact hs.1 (State.stopPresent_of_clearLatches hp)), hreason]

end Sys2Proof.Machine
end

section
/-! PROOFS. READ_ALARMS: its reply byte by byte and its refusals (R174). -/

namespace Sys2Proof.Proofs

open Sys2Proof.Machine Sys2Proof.Safety

/-! ## The reply -/

/-- The flags of an alarm's block, bit by bit (R174). -/
theorem block_eq (active fixed : Bool) (a : Alarm) : a.block active fixed =
    BitVec.ofNat 8 ((if active then 1 else 0) + (if a.latch.isSome then 2 else 0) + (if a.summaryEn then 4 else 0)
      + (if a.stopEn then 8 else 0) + if fixed then 16 else 0) :: padTo 5 (a.latch.getD []) := by
  simp [Alarm.block, byteOf, bitsFromLow, Alarm.latched, Nat.add_assoc]

theorem alarmReply_lane (s : State) (l : Lane) : s.alarmReply (.lane l) = byteOf l ::
    (List.finRange 7).flatMap (fun i => (s.lane l).alarms[i].block (s.laneActive l i) (laneFixed i)) := by
  rw [State.alarmReply, zipIdx_toList, List.flatMap_map]

theorem alarmReply_chip (s : State) : s.alarmReply .chip = 0xFE ::
    (List.finRange 6).flatMap (fun i => s.chipAlarms[i].block false (chipFixed i)) := by
  rw [State.alarmReply, zipIdx_toList, List.flatMap_map]

theorem laneFixed_eq : ∀ i : Fin 7, laneFixed i = decide (i = 2 ∨ i = 5) := by decide

theorem chipFixed_eq : ∀ i : Fin 6, chipFixed i = decide (i = 5) := by decide

/-- The reply for the scope of all alarms has a byte of latches and a byte of active indications for each lane (R174). -/
theorem alarmReply_all_bytes (s : State) (l : Lane) :
    byteAt (s.alarmReply .all) l = byteOf (bitsFromLow ((s.lane l).alarms.toList.map Alarm.latched)) ∧
      byteAt (s.alarmReply .all) (6 + l) = byteOf (bitsFromLow ((List.range 7).map (s.laneActive l))) := by
  have hrow : ∀ g : Lane → Byte, byteAt ((List.finRange 6).map g) l = g l := fun g => by
    simp [byteAt, List.getD_eq_getElem?_getD]
  rw [State.alarmReply, List.append_assoc]
  refine ⟨(byteAt_append_left _ (by simp)).trans (hrow _), ?_⟩
  exact (byteAt_append_right _ _ l).trans ((byteAt_append_left _ (by simp)).trans (hrow _))

/-- The flags of some alarms of one owner read back from their byte (R174). -/
theorem getLsbD_flags {n : Nat} (hn : n ≤ 8) (bs : List Bool) (i : Fin n) :
    (byteOf (bitsFromLow bs)).getLsbD i = bs.getD i false := by
  rw [getLsbD_byteOf, testBit_bitsFromLow, decide_eq_true (show (i : Nat) < 8 by omega), Bool.true_and]

theorem getLsbD_latched {n : Nat} (hn : n ≤ 8) (alarms : Vector Alarm n) (i : Fin n) :
    (byteOf (bitsFromLow (alarms.toList.map Alarm.latched))).getLsbD i = alarms[i].latch.isSome := by
  rw [getLsbD_flags hn]
  simp [List.getD_eq_getElem?_getD, Alarm.latched]

theorem getLsbD_active (active : Nat → Bool) (i : Fin 7) :
    (byteOf (bitsFromLow ((List.range 7).map active))).getLsbD i = active i := by
  rw [getLsbD_flags (by decide)]
  simp [List.getD_eq_getElem?_getD]

/-! ## READ_ALARMS -/

theorem decideReadAlarms_of_malformed {d : List Byte} {s : State} (h : restZero d 1 = false) : decideReadAlarms d s = refuseFormat s :=
  if_pos (by simp [h])

theorem decideReadAlarms_of_no_scope {d : List Byte} {s : State} (hz : restZero d 1 = true) (h5 : 5 < natAt d 0) (h : natAt d 0 < 254) :
    decideReadAlarms d s = refuse .refusedRange [] s := by
  rw [decideReadAlarms, if_neg (by simp [hz]), scopeOf_of_no_scope h5 h]

theorem decideReadAlarms_of_scope {d : List Byte} {sc : Scope} (s : State) (hz : restZero d 1 = true) (h : natAt d 0 = sc.number) :
    decideReadAlarms d s = ⟨.done, s.alarmReply sc, (s.clearLatches sc).settleStop⟩ := by
  rw [decideReadAlarms, if_neg (by simp [hz]), h, scopeOf_number]

/-- The state and the data of READ_ALARMS for a scope (R174, R177). -/
theorem exec_readAlarms_scope {f : Frame} {rest : List Frame} {s : State} (h : Serves s f rest .readAlarms) {sc : Scope}
    (hz : restZero (serviceData f) 1 = true) (hn : natAt (serviceData f) 0 = sc.number) :
    exec .readAlarms s = .next (replied (s.clearLatches sc).settleStop f rest .done (s.alarmReply sc)) :=
  serve_decided h (decideReadAlarms_of_scope s hz hn) (Served.alarmsRead sc).buffer

/-- The byte that names a lane is its number (R174). -/
theorem byteOf_lane {x : Byte} {l : Lane} (h : x.toNat = l) : byteOf l = x := by
  rw [byteOf, ← h, BitVec.ofNat_toNat, BitVec.setWidth_eq]

/-- Settles O50: the two refusals, and for each scope its reply, with the clearing and the settled stop request. -/
theorem readAlarmsClears : Obligations.ReadAlarmsClears := by
  refine ⟨State.laneActive_iff, fun f rest s h hs => ?_⟩
  intro d n block
  refine ⟨fun hz => serve_decided h (decideReadAlarms_of_malformed hz) rfl,
    fun hz h5 hn => serve_decided h (decideReadAlarms_of_no_scope hz h5 hn) rfl, fun hz hn => ?_⟩
  obtain ⟨sc, hsc⟩ : ∃ sc : Scope, n = sc.number := exists_scope_number (natAt_lt d 0) hn
  have hblock : ∀ (active fixed : Bool) (a : Alarm), block active fixed a = a.block active fixed := fun active fixed a =>
    (block_eq active fixed a).symm
  refine ⟨(s.clearLatches sc).settleStop, s.alarmReply sc, exec_readAlarms_scope h hz hsc, fun l hl => ?_, fun hchip => ?_,
    fun hall => ?_, ?_⟩
  · obtain rfl : sc = .lane l := Scope.eq_of_number_eq (hsc.symm.trans hl)
    simp only [alarmReply_lane, byteOf_lane hl, hblock, laneFixed_eq]
  · obtain rfl : sc = .chip := Scope.eq_of_number_eq (hsc.symm.trans hchip)
    simp only [alarmReply_chip, hblock, chipFixed_eq]
  · obtain rfl : sc = .all := Scope.eq_of_number_eq (hsc.symm.trans hall)
    refine ⟨by simp [State.alarmReply], rfl, fun l i => ?_, fun i => getLsbD_latched (by decide) s.chipAlarms i⟩
    obtain ⟨hlatched, hactive⟩ := alarmReply_all_bytes s l
    rw [hlatched, hactive]
    exact ⟨getLsbD_latched (by decide) _ i, getLsbD_active _ i⟩
  · rw [State.settleStop_clearLatches hs sc, hsc]
    refine ⟨fun l => ⟨?_, s.laneAlarm_clearLatches sc l⟩, s.chipAlarm_clearLatches sc, rfl, ?_⟩
    · exact s.laneFrame_clearLatches sc l
    · exact congrArg (fun t : State => { t with stopReason := s.stopReason }) (s.clearLatches_frame sc)

end Sys2Proof.Proofs
end

section
/-! PROOFS. The seal dose calculation: which of its five ways it goes, what the dwell and the outcome are on each, the segments of a dwell and the
pressures of a stroke (R93 to R101). -/

namespace Sys2Proof.Machine

theorem ZoneState.usable_iff (zs : ZoneState) : zs.usable = true ↔ zs = .ready ∨ zs = .holding := by
  cases zs <;> decide

/-! ## The raw dwell -/

/-- The raw dwell is the shortest dwell that delivers the heat dose (R94). -/
theorem rawDwell_le_iff {r : Recipe} {e d : Nat} (he : 0 < e) : rawDwell r e ≤ d ↔ 10 * r.heatDose ≤ d * e := by
  rw [rawDwell, ← Nat.ceilDiv_eq_add_pred_div, ceilDiv_le_iff_le_mul he, Nat.mul_comm e]

theorem lt_rawDwell_iff {r : Recipe} {e d : Nat} (he : 0 < e) : d < rawDwell r e ↔ d * e < 10 * r.heatDose :=
  lt_iff_lt_of_le_iff_le (rawDwell_le_iff he)

/-! ## The dose judged -/

theorem underdosed_iff (r : Recipe) (a : Nat) : underdosed r a = true ↔ a * 256 < r.heatDose * (256 - r.tolU) := decide_eq_true_iff

theorem overdosed_iff (r : Recipe) (a : Nat) : overdosed r a = true ↔ r.heatDose * (256 + r.tolO) < a * 256 := decide_eq_true_iff

/-- A dwell that is not below the raw dwell is never underdosed, however small the tolerance (R97). -/
theorem underdosed_of_rawDwell_le {r : Recipe} {e d : Nat} (he : 0 < e) (h : rawDwell r e ≤ d) : underdosed r (dose d e) = false := by
  have hdose : r.heatDose ≤ dose d e := by
    have := (rawDwell_le_iff he).1 h
    rw [dose]
    omega
  have hwithin : r.heatDose * (256 - r.tolU) ≤ dose d e * 256 := Nat.mul_le_mul hdose (Nat.sub_le _ _)
  exact Bool.eq_false_iff.2 fun hunder => absurd ((underdosed_iff r _).1 hunder) (Nat.not_lt.2 hwithin)

/-! ## The dwell of a stroke -/

/-- Steps 4 to 7: the dwell and the outcome in a window, at an excess (R94, R96 to R98). -/
def strokeDwell (r : Recipe) (window e : Nat) : Nat × SealOutcome :=
  let d := clampDwell r window (rawDwell r e)
  (d.1, judgeDose r e d)

section
variable {r : Recipe} {w e : Nat}

/-- A raw dwell below the recipe's shortest is raised to it, and may overdose (R96, R98). -/
theorem strokeDwell_of_raw_lt (he : 0 < e) (h : rawDwell r e < r.dMin) :
    strokeDwell r w e = (r.dMin, if overdosed r (dose r.dMin e) then .overdose else .clampedLow) := by
  simp only [strokeDwell, clampDwell, if_pos h, judgeDose, underdosed_of_rawDwell_le he h.le, Bool.false_eq_true, if_false, true_and]

/-- A raw dwell within the recipe's limits and the window is commanded (R96). -/
theorem strokeDwell_of_raw_fits (he : 0 < e) (hlow : r.dMin ≤ rawDwell r e) (hmax : rawDwell r e ≤ r.dMax) (hw : rawDwell r e ≤ w) :
    strokeDwell r w e = (rawDwell r e, .ok) := by
  simp [strokeDwell, clampDwell, hlow.not_gt, hmax.not_gt, hw.not_gt, judgeDose, underdosed_of_rawDwell_le he le_rfl]

/-- A raw dwell above the recipe's longest or the window is lowered to the shorter of the two, and may underdose (R96, R97). -/
theorem strokeDwell_of_lt_raw (hlow : r.dMin ≤ rawDwell r e) (h : min r.dMax w < rawDwell r e) :
    strokeDwell r w e = (min r.dMax w, if underdosed r (dose (min r.dMax w) e) then .underdose else .clampedHigh) := by
  have hclamp : clampDwell r w (rawDwell r e) = (min r.dMax w, .clampedHigh) := by
    rw [clampDwell, if_neg hlow.not_gt]
    split
    · rfl
    · next hmax => rw [if_pos (by omega), Nat.min_eq_right (by omega)]
  simp [strokeDwell, hclamp, judgeDose]

end

/-! ## The calculation -/

section
variable {r : Recipe} {m : StationMap} {pitch : Nat} {zs : ZoneState} {z : Nat}

/-- Without a usable zone or enough excess there is no stroke (R93). -/
theorem sealDwell_of_noHeat (h : zs.usable = false ∨ sealExcess z r < (r.eMin : Int)) : sealDwell r m pitch zs z = (0, .noHeat) :=
  if_pos (by simpa using h)

/-- Without room for the recipe's shortest dwell there is no stroke (R95). -/
theorem sealDwell_of_noWindow (hu : zs.usable = true) (he : (r.eMin : Int) ≤ sealExcess z r) (hw : sealWindow pitch m < (r.dMin : Int)) :
    sealDwell r m pitch zs z = (0, .noWindow) := by
  simp [sealDwell, hu, he.not_gt, hw]

/-- Everywhere else the stroke is commanded at the dwell of the window and the excess. -/
theorem sealDwell_of_stroke (hu : zs.usable = true) (he : (r.eMin : Int) ≤ sealExcess z r) (hw : (r.dMin : Int) ≤ sealWindow pitch m) :
    sealDwell r m pitch zs z = strokeDwell r (sealWindow pitch m).toNat (sealExcess z r).toNat := by
  simp [sealDwell, strokeDwell, hu, he.not_gt, hw.not_gt]

/-- How the dwell of a stroke stands to the heat dose and the tolerances, by its outcome (R94, R96 to R98). -/
def StrokeJudged (r : Recipe) (longest e d : Nat) : SealOutcome → Prop
  | .ok => 10 * r.heatDose ≤ d * e ∧ (d - 1) * e < 10 * r.heatDose
  | .clampedLow => d = r.dMin ∧ 10 * r.heatDose ≤ (d - 1) * e ∧ dose d e * 256 ≤ r.heatDose * (256 + r.tolO)
  | .overdose => d = r.dMin ∧ 10 * r.heatDose ≤ (d - 1) * e ∧ r.heatDose * (256 + r.tolO) < dose d e * 256
  | .clampedHigh => d = longest ∧ d * e < 10 * r.heatDose ∧ r.heatDose * (256 - r.tolU) ≤ dose d e * 256
  | .underdose => d = longest ∧ d * e < 10 * r.heatDose ∧ dose d e * 256 < r.heatDose * (256 - r.tolU)
  | .noHeat | .noWindow => False

theorem StrokeJudged.strokes {longest e d : Nat} {o : SealOutcome} (h : StrokeJudged r longest e d o) : o ≠ .noHeat ∧ o ≠ .noWindow :=
  ⟨fun ho => by rw [ho] at h; exact h, fun ho => by rw [ho] at h; exact h⟩

/-- In a window with room for the recipe's shortest dwell, the dwell lies within the limits, and the outcome says what it is. -/
theorem strokeDwell_spec {w e : Nat} (hr : r.InRange) (he : 0 < e) (hw : r.dMin ≤ w) :
    let s := strokeDwell r w e
    r.dMin ≤ s.1 ∧ s.1 ≤ min r.dMax w ∧ StrokeJudged r (min r.dMax w) e s.1 s.2 := by
  obtain ⟨hmin, hmax, -⟩ := hr.dwell
  have hroom : r.dMin ≤ min r.dMax w := le_min hmax hw
  rcases lt_or_ge (rawDwell r e) r.dMin with hlow | hlow
  · have hheat : 10 * r.heatDose ≤ (r.dMin - 1) * e := (rawDwell_le_iff he).1 (by omega)
    rw [strokeDwell_of_raw_lt he hlow]
    refine ⟨le_rfl, hroom, ?_⟩
    dsimp only
    split
    · next hover => exact ⟨rfl, hheat, (overdosed_iff r _).1 hover⟩
    · next hover => exact ⟨rfl, hheat, not_lt.1 (mt (overdosed_iff r _).2 hover)⟩
  · rcases le_or_gt (rawDwell r e) (min r.dMax w) with hhigh | hhigh
    · rw [strokeDwell_of_raw_fits he hlow (hhigh.trans (min_le_left _ _)) (hhigh.trans (min_le_right _ _))]
      exact ⟨hlow, hhigh, (rawDwell_le_iff he).1 le_rfl, (lt_rawDwell_iff he).1 (by omega)⟩
    · have hheat := (lt_rawDwell_iff he).1 hhigh
      rw [strokeDwell_of_lt_raw hlow hhigh]
      refine ⟨hroom, le_rfl, ?_⟩
      dsimp only
      split
      · next hunder => exact ⟨rfl, hheat, (underdosed_iff r _).1 hunder⟩
      · next hunder => exact ⟨rfl, hheat, not_lt.1 (mt (underdosed_iff r _).2 hunder)⟩

/-- The three ways of the calculation (R93, R95): no heat, no window, or a stroke. -/
theorem sealDwell_cases (hr : r.InRange) (m : StationMap) (pitch : Nat) (zs : ZoneState) (z : Nat) :
    let e := sealExcess z r
    let w := sealWindow pitch m
    let s := sealDwell r m pitch zs z
    (s = (0, .noHeat) ∧ (zs.usable = false ∨ e < (r.eMin : Int))) ∨
    (s = (0, .noWindow) ∧ zs.usable = true ∧ (r.eMin : Int) ≤ e ∧ w < (r.dMin : Int)) ∨
    (zs.usable = true ∧ (r.eMin : Int) ≤ e ∧ (r.dMin : Int) ≤ w ∧ r.dMin ≤ s.1 ∧ s.1 ≤ min r.dMax w.toNat ∧
      StrokeJudged r (min r.dMax w.toNat) e.toNat s.1 s.2) := by
  intro e w s
  by_cases hheat : zs.usable = false ∨ e < (r.eMin : Int)
  · exact .inl ⟨sealDwell_of_noHeat hheat, hheat⟩
  · obtain ⟨hu, he⟩ : zs.usable = true ∧ (r.eMin : Int) ≤ e := by simpa using hheat
    rcases lt_or_ge w (r.dMin : Int) with hw | hw
    · exact .inr (.inl ⟨sealDwell_of_noWindow hu he hw, hu, he, hw⟩)
    · have hmin := hr.eMin
      rw [show s = strokeDwell r w.toNat e.toNat from sealDwell_of_stroke hu he hw]
      exact .inr (.inr ⟨hu, he, hw, strokeDwell_spec hr (by omega) (by omega)⟩)

end

/-! ## The segments of a dwell -/

/-- The first segments of a dwell end where its eighths end, truncated (R100). -/
theorem sum_segmentDuration (d n : Nat) : ((List.range n).map (segmentDuration d)).sum = d * n / 8 := by
  induction n with
  | zero => simp
  | succ n ih =>
    have hgrow : d * n / 8 ≤ d * (n + 1) / 8 := Nat.div_le_div_right (Nat.mul_le_mul_left d n.le_succ)
    rw [List.range_succ, List.map_append, List.sum_append, ih, List.map_singleton, List.sum_singleton, segmentDuration,
      Nat.add_sub_cancel' hgrow]

theorem segmentDuration_eq_or (d i : Nat) : segmentDuration d i = d / 8 ∨ segmentDuration d i = d / 8 + 1 := by
  rw [segmentDuration, Nat.mul_succ]
  omega

/-! ## The pressures of a stroke -/

/-- In range a base pressure scaled by its offset stays well inside 9 bits, so nothing is lost of it (R101). -/
theorem rawPressure_spec {pb : Nat} {o : Int} (hpb : 12 ≤ pb) (hpb' : pb ≤ 225) (ho : -63 ≤ o) (ho' : o ≤ 63) :
    128 * (rawPressure pb o : Int) ≤ (pb : Int) * (128 + o) + 64 ∧ (pb : Int) * (128 + o) + 64 < 128 * (rawPressure pb o + 1) ∧
      6 ≤ rawPressure pb o ∧ rawPressure pb o ≤ 336 := by
  have hleast : (12 : Int) * 65 ≤ (pb : Int) * (128 + o) := mul_le_mul (by omega) (by omega) (by omega) (by omega)
  have hmost : (pb : Int) * (128 + o) ≤ 225 * 191 := mul_le_mul (by omega) (by omega) (by omega) (by omega)
  rw [rawPressure]
  omega

theorem segmentPressure_eq {m : StationMap} (hm : m.pMin ≤ m.pMax) (pb : Nat) (o : Int) :
    segmentPressure m pb o = max m.pMin (min m.pMax (rawPressure pb o)) := by
  simp only [segmentPressure]
  split
  · omega
  · split <;> omega

end Sys2Proof.Machine

namespace Sys2Proof.Proofs

open Sys2Proof.Machine

/-- Settles O17: the calculation's three ways, and of a stroke the five outcomes; then the segments and the pressures. -/
theorem sealCalculation : Obligations.SealCalculation := by
  refine ⟨fun r m pitch zs z hin => ?_, fun d => ⟨?_, fun i _ => segmentDuration_eq_or d i⟩, fun m pb o hm hpb hpb' ho ho' => ?_⟩
  · intro e w usable d o a longest
    have hr := (Recipe.inRange_iff r).1 hin
    have hzone : zs.usable = true ↔ usable := zs.usable_iff
    rcases sealDwell_cases hr m pitch zs z with ⟨hs, hcold⟩ | ⟨hs, hu, he, hw⟩ | ⟨hu, he, hw, hlow, hhigh, hstroke⟩
    · have ho : o = .noHeat := congrArg Prod.snd hs
      have hskip : ¬ usable ∨ e < (r.eMin : Int) := hcold.imp_left fun hu h => by simp [hzone.2 h] at hu
      simp only [ho, reduceCtorEq, true_iff, false_iff, false_imp_iff, ne_eq, not_true_eq_false, false_and, and_true]
      exact ⟨hskip, fun ⟨hu, he, _⟩ => hskip.elim (absurd hu) he.not_gt, fun _ => congrArg Prod.fst hs⟩
    · have ho : o = .noWindow := congrArg Prod.snd hs
      simp only [ho, reduceCtorEq, true_iff, false_iff, false_imp_iff, ne_eq, not_true_eq_false, and_false, and_true]
      exact ⟨not_or.2 ⟨not_not_intro (hzone.1 hu), he.not_gt⟩, ⟨hzone.1 hu, he, hw⟩, fun _ => congrArg Prod.fst hs⟩
    · obtain ⟨hheat, hwindow⟩ := hstroke.strokes
      obtain ⟨hleast, -, hmost⟩ := hr.dwell
      have hlongest : ((min r.dMax (sealWindow pitch m).toNat : Nat) : Int) = longest := by
        rw [Nat.cast_min, Int.toNat_of_nonneg (by omega)]
        rfl
      have hd : (d : Int) ≤ longest := by rw [← hlongest]; exact Int.ofNat_le.2 hhigh
      have hjudged : ∀ x, o = x → StrokeJudged r (min r.dMax (sealWindow pitch m).toNat) e.toNat d x := fun _ h => h ▸ hstroke
      have hcast : d = min r.dMax (sealWindow pitch m).toNat → (d : Int) = longest := fun h => by rw [h, hlongest]
      refine ⟨iff_of_false hheat (not_or.2 ⟨not_not_intro (hzone.1 hu), he.not_gt⟩), iff_of_false hwindow fun ⟨_, _, h⟩ => hw.not_gt h,
        fun h => (h.elim hheat hwindow).elim, fun _ => ⟨hlow, hd, hleast.trans hlow, hhigh.trans ((min_le_left _ _).trans hmost)⟩,
        hjudged .ok, hjudged .clampedLow, hjudged .overdose, fun h => (hjudged _ h).imp_left hcast, fun h => (hjudged _ h).imp_left hcast⟩
  · rw [sum_segmentDuration, Nat.mul_div_cancel _ (by decide)]
  · obtain ⟨hle, hlt, hlow, hhigh⟩ := rawPressure_spec hpb hpb' ho ho'
    exact ⟨rawPressure pb o, hle, hlt, hlow, hhigh, segmentPressure_eq hm pb o⟩

end Sys2Proof.Proofs
end

section
/-! PROOFS. The end of a conversion: what each kind of code makes of a zone's items, and what of the state it leaves (R107 to R112). -/

namespace Sys2Proof.Machine

open Sys2Proof.Safety

/-! ## An invalid code -/

theorem codeValid_eq_false_iff (raw : RawCode) : codeValid raw = false ↔ raw.toNat = 0 ∨ raw.toNat = 1023 := by
  have hzero : raw.toNat = 0 ↔ raw = 0 := BitVec.toNat_inj (y := 0)
  have htop : raw.toNat = 1023 ↔ raw = 1023 := BitVec.toNat_inj (y := 1023)
  rw [hzero, htop, codeValid, Bool.and_eq_false_iff]
  simp

/-- An invalid code touches the streak and the state alone: FAULT stays, and is entered when the streak reaches the limit (R110, R111). -/
theorem Zone.invalidCode_eq (limit : Nat) (z : Zone) : z.invalidCode limit = { z with
    streak := min (z.streak + 1) 255
    state := if z.state = .fault ∨ limit ≤ min (z.streak + 1) 255 then .fault
      else if z.state = .warming then .warming else .holding } := by
  obtain ⟨offset, zlimit, history, temperature, state, streak⟩ := z
  by_cases hreached : limit ≤ min (streak + 1) 255
  · cases state <;> simp [Zone.invalidCode, hreached]
  · cases state <;> simp [Zone.invalidCode, hreached]

/-! ## A valid code -/

/-- A history of at most four codes keeps the last four with the one that joins (R109). -/
theorem joinHistory_eq_drop {h : List Nat} (hl : h.length ≤ 4) (code : Nat) :
    joinHistory h code = (h ++ [code]).drop (h.length - 3) := by
  rw [joinHistory]
  split
  · next hshort => rw [Nat.sub_eq_zero_of_le (Nat.le_of_lt_succ hshort), List.drop_zero]
  · next hfull =>
    have hfour : h.length = 4 := by omega
    rw [hfour, List.drop_append_of_le_length (by omega), List.drop_one]

/-- The history after a valid code: a zone leaves FAULT with that code alone (R109, R110). -/
def Zone.historyWith (z : Zone) (code : Nat) : List Nat :=
  if z.state = .fault then [code] else (z.history ++ [code]).drop (z.history.length - 3)

theorem Zone.historyWith_of_fault {z : Zone} (h : z.state = .fault) (code : Nat) : z.historyWith code = [code] := if_pos h

theorem Zone.historyWith_of_ne_fault {z : Zone} (hz : z.InRange) (h : z.state ≠ .fault) (code : Nat) :
    z.historyWith code = joinHistory z.history code := by
  rw [Zone.historyWith, if_neg h, joinHistory_eq_drop hz.length]

/-- A code that joins touches the history, Z once the history is full, and the streak (R109, R110). -/
theorem Zone.join_eq {z : Zone} (hz : z.InRange) (h : z.state ≠ .fault) (code : Nat) : z.join code = { z with
    history := z.historyWith code
    z := if (z.historyWith code).length = 4 then (z.historyWith code).sum * 3 / 4 else z.z
    streak := 0 } := by
  rw [Zone.historyWith_of_ne_fault hz h]
  rfl

/-- A sound zone after a valid code: the state follows the length of the history, as READY and HOLDING come with a full one (R109, R110). -/
theorem Zone.validCode_eq {z : Zone} (h : ZoneSound z) (code : Nat) : z.validCode code = { z with
    history := z.historyWith code
    z := if (z.historyWith code).length = 4 then (z.historyWith code).sum * 3 / 4 else z.z
    streak := 0
    state := if (z.historyWith code).length = 4 then .ready else .warming } := by
  obtain ⟨hz, hfits⟩ := (zoneSound_iff z).1 h
  have hstays : z.state ≠ .fault → z.history.length = 4 → (z.historyWith code).length = 4 := fun hne hfull => by
    rw [Zone.historyWith_of_ne_fault hz hne, length_joinHistory _ _ hz.length, hfull]
    rfl
  unfold Zone.Fits at hfits
  unfold Zone.validCode
  split
  · next hs => rw [Zone.join_eq hz (by simp [hs])]
  · next hs =>
    have hne : z.state ≠ .fault := by simp [hs]
    rw [hs] at hfits
    rw [Zone.join_eq hz hne, if_pos (hstays hne hfits.1), if_pos (hstays hne hfits.1)]
  · next hs =>
    have hne : z.state ≠ .fault := by simp [hs]
    rw [hs] at hfits
    rw [Zone.join_eq hz hne, if_pos (hstays hne hfits), if_pos (hstays hne hfits)]
  · next hs =>
    rw [Zone.historyWith_of_fault hs]
    rfl

/-! ## What a conversion leaves -/

theorem Zone.convert_of_invalid {raw : RawCode} (h : raw.toNat = 0 ∨ raw.toNat = 1023) (offset : Int) (limit : Nat) (z : Zone) :
    z.convert raw offset limit = z.invalidCode limit := if_neg (by simp [(codeValid_eq_false_iff raw).2 h])

theorem Zone.convert_of_valid {raw : RawCode} (hzero : 0 < raw.toNat) (htop : raw.toNat < 1023) (offset : Int) (limit : Nat) (z : Zone) :
    z.convert raw offset limit = z.validCode (corrected raw offset) :=
  if_pos (by rw [← Bool.not_eq_false, codeValid_eq_false_iff]; omega)

/-- No code changes the offset or the hold limit (R112). -/
theorem Zone.convert_settings {z : Zone} (h : ZoneSound z) (raw : RawCode) (offset : Int) (limit : Nat) :
    (z.convert raw offset limit).offset = z.offset ∧ (z.convert raw offset limit).limit = z.limit := by
  rw [Zone.convert, Zone.validCode_eq h, Zone.invalidCode_eq]
  split <;> exact ⟨rfl, rfl⟩

/-- The next conversion is of the next zone, with the offset and the hold limit it has then (R107, R112). -/
theorem State.conv_convert (s : State) (raw : RawCode) (inStep : Lane → Bool) :
    (s.convert raw inStep).conv =
      ⟨s.conv.zone + 1, (s.zone (s.conv.zone + 1)).offset, (s.zone (s.conv.zone + 1)).limit⟩ := by
  have hnext : s.conv.zone ≠ s.conv.zone + 1 := by generalize s.conv.zone = l; decide +revert
  have hbegun : (s.convert raw inStep).conv = ⟨s.conv.zone + 1, ((s.convert raw inStep).zone (s.conv.zone + 1)).offset,
      ((s.convert raw inStep).zone (s.conv.zone + 1)).limit⟩ := rfl
  rw [hbegun, State.zone_convert_ne s raw inStep hnext]

theorem State.convert_frame (s : State) (raw : RawCode) (inStep : Lane → Bool) :
    { s.convert raw inStep with lanes := s.lanes, stopReason := s.stopReason, zones := s.zones, conv := s.conv } = s := by
  by_cases h : s.Faults raw
  · rw [State.convert_of_faults h]
    exact congrArg (fun t : State => { t with zones := s.zones, conv := s.conv }) (State.lanesOnly_zoneFaultBegins _ _ _).frame
  · rw [State.convert_of_not h]
    rfl

end Sys2Proof.Machine

namespace Sys2Proof.Proofs

open Sys2Proof.Machine Sys2Proof.Safety

/-- Settles O15: the conversion's own zone is the converted one, read off by the kind of the code; the frame is that of a conversion. -/
theorem conversionMovesItsZone : Obligations.ConversionMovesItsZone := by
  intro raw s hp hs l z
  have hz : ZoneSound z := hs l
  obtain ⟨hoffset, hlimit⟩ := Zone.convert_settings hz raw s.conv.offset s.conv.limit
  refine ⟨_, exec_conversionEnd hp raw, fun m hm => s.zone_convert_ne raw _ hm.symm, s.conv_convert raw _, s.convert_frame raw _, ?_⟩
  rw [State.zone_convert_self]
  refine ⟨hoffset, hlimit, fun hinvalid => ?_, fun hzero htop => ?_⟩
  · rw [State.converted, Zone.convert_of_invalid hinvalid, Zone.invalidCode_eq]
    exact ⟨rfl, rfl, rfl, rfl⟩
  · rw [State.converted, Zone.convert_of_valid hzero htop, Zone.validCode_eq hz]
    exact ⟨rfl, rfl, rfl, rfl⟩

end Sys2Proof.Proofs
end

section
/-! PROOFS. SET_ZONE and READ_ZONES (R112, R113). -/

namespace Sys2Proof.Machine

open Sys2Proof.Safety

/-! ## SET_ZONE -/

theorem State.setZone_frame (s : State) (l : Lane) (z : Zone) : { s.setZone l z with zones := s.zones } = s := rfl

theorem magnitude_eq_natAbs (b : Byte) : magnitude b = (signedOf b).natAbs := by
  rw [signedOf]
  split <;> simp

theorem decideSetZone_of_malformed {d : List Byte} {s : State} (h : restZero d 3 = false) : decideSetZone d s = refuseFormat s :=
  if_pos (by simp [h])

theorem decideSetZone_of_no_zone {d : List Byte} {s : State} (hz : restZero d 3 = true) (h : 5 < natAt d 0) :
    decideSetZone d s = refuse .refusedRange [] s := by
  rw [decideSetZone, if_neg (by simp [hz]), Proofs.laneOf_eq_none h]

theorem decideSetZone_of_out_of_range {d : List Byte} {s : State} {l : Lane} (hz : restZero d 3 = true) (hl : natAt d 0 = l)
    (h : 7 < (signedOf (byteAt d 1)).natAbs ∨ natAt d 2 = 0) : decideSetZone d s = refuse .refusedRange (s.zoneReply l) s := by
  rw [← magnitude_eq_natAbs] at h
  rw [decideSetZone, if_neg (by simp [hz]), hl, Proofs.laneOf_val]
  exact if_pos h

/-- The state with a zone's offset and hold limit replaced (R112). -/
def State.withSettings (s : State) (l : Lane) (offset : Int) (limit : Nat) : State :=
  s.setZone l { s.zone l with offset := offset, limit := limit }

theorem decideSetZone_of_in_range {d : List Byte} {s : State} {l : Lane} (hz : restZero d 3 = true) (hl : natAt d 0 = l)
    (ho : (signedOf (byteAt d 1)).natAbs ≤ 7) (hlimit : natAt d 2 ≠ 0) :
    decideSetZone d s = ⟨.done, (s.withSettings l (signedOf (byteAt d 1)) (natAt d 2)).zoneReply l,
      s.withSettings l (signedOf (byteAt d 1)) (natAt d 2)⟩ := by
  have hrange : ¬ (7 < magnitude (byteAt d 1) ∨ natAt d 2 = 0) := by rw [magnitude_eq_natAbs]; omega
  rw [decideSetZone, if_neg (by simp [hz]), hl, Proofs.laneOf_val]
  exact if_neg hrange

/-! ## READ_ZONES -/

/-- The state of the `n`-th reading: the conversions that end before each of the first `n` readings have acted (R113). -/
def State.readAfter (s : State) (during : List (List RawCode)) (n : Nat) : State :=
  ((List.range n).flatMap (fun j => during.getD j [])).foldl (fun t raw => t.convert raw (fun _ => false)) s

theorem State.readAfter_succ (s : State) (during : List (List RawCode)) (n : Nat) :
    s.readAfter during (n + 1) = (during.getD n []).foldl (fun t raw => t.convert raw (fun _ => false)) (s.readAfter during n) := by
  rw [State.readAfter, List.range_succ, List.flatMap_append, List.foldl_append, List.flatMap_singleton]
  rfl

/-- A zone's bytes as it stands when it is read (R113). -/
def State.zoneRead (s : State) (during : List (List RawCode)) (l : Lane) : List Byte :=
  ((s.readAfter during (l + 1)).zone l).bytes

theorem State.length_zoneRead (s : State) (during : List (List RawCode)) (l : Lane) : (s.zoneRead during l).length = 7 := rfl

/-- The first `n` zones read, one after another in lane order. -/
theorem foldl_readZone_take (s : State) (during : List (List RawCode)) {n : Nat} (hn : n ≤ 6) :
    ((List.finRange 6).take n).foldl (readZone during) (s, []) =
      (s.readAfter during n, ((List.finRange 6).take n).flatMap (s.zoneRead during)) := by
  induction n with
  | zero => rfl
  | succ n ih =>
    have hnext : (List.finRange 6).take (n + 1) = (List.finRange 6).take n ++ [⟨n, hn⟩] := by
      rw [List.take_succ_eq_append_getElem (by simpa using hn), List.getElem_finRange]
      rfl
    rw [hnext, List.foldl_append, ih (by omega), List.flatMap_append, List.flatMap_singleton, State.zoneRead, State.readAfter_succ]
    rfl

theorem decideReadZones_of_malformed {during : List (List RawCode)} {d : List Byte} {s : State} (h : restZero d 0 = false) :
    decideReadZones during d s = refuseFormat s := if_neg (by simp [h])

theorem decideReadZones_of_wellFormed (during : List (List RawCode)) {d : List Byte} (s : State) (h : restZero d 0 = true) :
    decideReadZones during d s = ⟨.done, (List.finRange 6).flatMap (s.zoneRead during), s.readAfter during 6⟩ := by
  rw [decideReadZones, if_pos h, ← List.take_of_length_le (l := List.finRange 6) (i := 6) (by simp), foldl_readZone_take s during le_rfl]

theorem State.buffer_readAfter (s : State) (during : List (List RawCode)) (n : Nat) : (s.readAfter during n).buffer = s.buffer :=
  (Served.zonesRead _).buffer

/-- Where every part of a joined list is `k` long, the part of the `i`-th element begins at `k * i`. -/
theorem take_drop_flatMap {α β : Type} {f : α → List β} {k : Nat} (hf : ∀ x, (f x).length = k) (xs : List α) (i : Nat)
    (hi : i < xs.length) : ((xs.flatMap f).drop (k * i)).take k = f xs[i] := by
  induction xs generalizing i with
  | nil => exact absurd hi (Nat.not_lt_zero i)
  | cons x xs ih =>
    cases i with
    | zero => rw [List.flatMap_cons, Nat.mul_zero, List.drop_zero, List.take_left' (hf x)]; rfl
    | succ i =>
      rw [List.flatMap_cons, Nat.mul_succ, Nat.add_comm, ← List.drop_drop, List.drop_left' (hf x), ih i (Nat.lt_of_succ_lt_succ hi)]
      rfl

end Sys2Proof.Machine

namespace Sys2Proof.Proofs

open Sys2Proof.Machine Sys2Proof.Safety

/-- Settles O46: SET_ZONE by the checks of R112 in their order; READ_ZONES is a list of six blocks of seven bytes, each read in turn. -/
theorem zoneRequests : Obligations.ZoneRequests := by
  refine ⟨rfl, fun o hlow hhigh => toNat_signedByte ⟨hlow, hhigh⟩, fun l z s => ⟨s.zone_setZone_self l z,
    fun m hm => s.zone_setZone_ne z hm.symm, s.setZone_frame l z⟩, fun f rest s => ?_⟩
  intro d offset bytes
  have hoffset : signedOf (byteAt d 1) = offset := signedOf_eq _
  refine ⟨fun h => ⟨fun hz => ?_, fun hz h5 => ?_, fun l hz hl => ⟨fun hrange => ?_, fun ho hlimit => ?_⟩⟩,
    fun during h => ⟨fun hz => ?_, fun hz => ?_⟩⟩
  · exact serve_decided h (decideSetZone_of_malformed hz) rfl
  · exact serve_decided h (decideSetZone_of_no_zone hz h5) rfl
  · exact serve_decided h (decideSetZone_of_out_of_range hz hl (hoffset ▸ hrange)) rfl
  · have hserve := serve_decided h (decideSetZone_of_in_range hz hl (hoffset ▸ ho) hlimit) rfl
    rw [hoffset] at hserve
    exact hserve
  · exact serve_decided h (decideReadZones_of_malformed hz) rfl
  · refine ⟨(List.finRange 6).flatMap (s.zoneRead during),
      serve_decided h (decideReadZones_of_wellFormed during s hz) (s.buffer_readAfter during 6), ?_, fun l => ?_⟩
    · simp [State.length_zoneRead]
    · have hl : l.val < (List.finRange 6).length := by simp
      rw [take_drop_flatMap (s.length_zoneRead during) _ _ hl, List.getElem_finRange]
      rfl

end Sys2Proof.Proofs
end

section
/-! PROOFS. The batches of passed cards: what a card does to the batch it joins, and which batch that is (R125, R126). -/

namespace Sys2Proof.Machine

/-! ## The card joins its batch -/

/-- The open batch is closed and counted (R126). -/
def LaneRec.closeBatch (r : LaneRec) : LaneRec := { r with openBatch := none }.bump 20 1

@[simp] theorem LaneRec.closeBatch_openBatch (r : LaneRec) : r.closeBatch.openBatch = none := rfl

/-- Steps 3 and 4 of R126: the card is added to the batch `b`, which closes at its size. -/
def LaneRec.addToBatch (b : Batch) (r : LaneRec) : LaneRec × List StackEvent :=
  if b.count + 1 = b.size then (r.closeBatch, [⟨.add, b.number, b.count + 1⟩, ⟨.closeFull, b.number, b.size⟩])
  else ({ r with openBatch := some { b with count := b.count + 1 } }, [⟨.add, b.number, b.count + 1⟩])

theorem LaneRec.addToBatch_of_full {b : Batch} (r : LaneRec) (h : b.count + 1 = b.size) :
    r.addToBatch b = (r.closeBatch, [⟨.add, b.number, b.count + 1⟩, ⟨.closeFull, b.number, b.size⟩]) := if_pos h

theorem LaneRec.addToBatch_of_room {b : Batch} (r : LaneRec) (h : b.count + 1 ≠ b.size) :
    r.addToBatch b = ({ r with openBatch := some { b with count := b.count + 1 } }, [⟨.add, b.number, b.count + 1⟩]) := if_neg h

/-! ## The batch the card joins -/

/-- The batch opened for a card, before the card is added (R125). -/
def LaneRec.newBatch (c : Card) (recipe : Recipe) (r : LaneRec) : Batch :=
  ⟨c.sku, recipe.batchSize, recipe.closeMode, r.lastBatch + 1, 0⟩

/-- A card of the open batch's SKU code joins that batch (R126). -/
theorem LaneRec.passEvents_of_same {c : Card} {r : LaneRec} {b : Batch} (recipe : Recipe) (hb : r.openBatch = some b)
    (hs : b.sku = c.sku) : r.passEvents c recipe = r.addToBatch b := by
  unfold LaneRec.passEvents LaneRec.addToBatch
  simp only [hb, if_pos hs]
  rfl

/-- With no batch open, the card opens one under the next number and joins it (R125). -/
theorem LaneRec.passEvents_of_none {r : LaneRec} (c : Card) (recipe : Recipe) (hb : r.openBatch = none) :
    r.passEvents c recipe = { r with lastBatch := r.lastBatch + 1 }.addToBatch (r.newBatch c recipe) := by
  unfold LaneRec.passEvents LaneRec.addToBatch
  simp only [hb]
  rfl

/-- A card of another SKU code closes the open batch; what follows is what a lane with no open batch does (R126). -/
theorem LaneRec.passEvents_of_changeover {c : Card} {r : LaneRec} {b : Batch} (recipe : Recipe) (hb : r.openBatch = some b)
    (hs : b.sku ≠ c.sku) :
    r.passEvents c recipe =
      ((r.closeBatch.passEvents c recipe).1, ⟨.closeChangeover, b.number, b.count⟩ :: (r.closeBatch.passEvents c recipe).2) := by
  rw [LaneRec.passEvents_of_none c recipe r.closeBatch_openBatch]
  unfold LaneRec.passEvents
  simp only [hb, if_neg hs, LaneRec.bump_openBatch]
  by_cases hfull : 0 + 1 = recipe.batchSize
  · rw [LaneRec.addToBatch_of_full _ hfull]
    exact if_pos hfull
  · rw [LaneRec.addToBatch_of_room _ hfull]
    exact if_neg hfull

/-! ## The batches closed -/

/-- From `r` to `t` the batches-closed counter rises by `n`, and no other counter changes (R126, R130). -/
def LaneRec.ClosesBatches (n : Nat) (r t : LaneRec) : Prop :=
  ∀ i : Fin 21, t.counters[i] = r.counters[i] + if i = 20 then BitVec.ofNat 32 n else 0

theorem LaneRec.ClosesBatches.of_same {r t : LaneRec} (h : t.counters = r.counters) : r.ClosesBatches 0 t := fun i => by
  simp [h]

theorem LaneRec.ClosesBatches.of_closeBatch {r t : LaneRec} (h : t.counters = r.closeBatch.counters) : r.ClosesBatches 1 t := fun i => by
  rw [h, LaneRec.closeBatch, LaneRec.counters_bump]
  simp only [eq_comm]

theorem LaneRec.ClosesBatches.trans {r q t : LaneRec} {m n : Nat} (hq : r.ClosesBatches m q) (ht : q.ClosesBatches n t) :
    r.ClosesBatches (m + n) t := fun i => by
  rw [ht i, hq i, BitVec.add_assoc]
  split
  · rw [← BitVec.ofNat_add]
  · rfl

/-! ## The card that opens a batch -/

/-- The card that opens a batch stays in it as its first, or closes it where the size is 1 (R125, R126). -/
theorem LaneRec.passEvents_opening {r : LaneRec} (c : Card) (recipe : Recipe) (hb : r.openBatch = none) :
    (r.passEvents c recipe).1.openBatch =
        (if recipe.batchSize = 1 then none else some ⟨c.sku, recipe.batchSize, recipe.closeMode, r.lastBatch + 1, 1⟩) ∧
      (r.passEvents c recipe).1.lastBatch = r.lastBatch + 1 ∧
      (r.passEvents c recipe).2 =
        ⟨.add, r.lastBatch + 1, 1⟩ :: (if recipe.batchSize = 1 then [⟨.closeFull, r.lastBatch + 1, 1⟩] else []) ∧
      r.ClosesBatches (if recipe.batchSize = 1 then 1 else 0) (r.passEvents c recipe).1 := by
  rw [LaneRec.passEvents_of_none c recipe hb]
  by_cases hsize : recipe.batchSize = 1
  · have hfull : (r.newBatch c recipe).count + 1 = (r.newBatch c recipe).size := hsize.symm
    rw [LaneRec.addToBatch_of_full _ hfull, if_pos hsize, if_pos hsize, if_pos hsize, ← hfull]
    exact ⟨rfl, rfl, rfl, .of_closeBatch rfl⟩
  · have hroom : (r.newBatch c recipe).count + 1 ≠ (r.newBatch c recipe).size := Ne.symm hsize
    rw [LaneRec.addToBatch_of_room _ hroom, if_neg hsize, if_neg hsize, if_neg hsize]
    exact ⟨rfl, rfl, rfl, .of_same rfl⟩

end Sys2Proof.Machine

namespace Sys2Proof.Proofs

open Sys2Proof.Machine

/-- Settles O26: the changeover reduces to a lane with no open batch, where the card opens one; every other card joins the open batch. -/
theorem batchEvents : Obligations.BatchEvents := by
  intro c recipe r _
  refine ⟨r.passEvents_opening c recipe, fun b hb hs => ?_, fun b hb hs hroom => ?_, fun b hb hs hfull => ?_, ?_⟩
  · obtain ⟨hopen, hlast, hevents, hclosed⟩ := r.closeBatch.passEvents_opening c recipe r.closeBatch_openBatch
    have hchangeover : r.ClosesBatches 1 r.closeBatch := .of_closeBatch rfl
    have hcount : (if recipe.batchSize = 1 then 2 else 1) = 1 + if recipe.batchSize = 1 then 1 else 0 := by split <;> rfl
    rw [LaneRec.passEvents_of_changeover recipe hb hs, hcount]
    exact ⟨hopen, hlast, congrArg _ hevents, hchangeover.trans hclosed⟩
  · rw [LaneRec.passEvents_of_same recipe hb hs, LaneRec.addToBatch_of_room r hroom]
    exact ⟨rfl, rfl, rfl, LaneRec.ClosesBatches.of_same rfl⟩
  · rw [LaneRec.passEvents_of_same recipe hb hs, LaneRec.addToBatch_of_full r hfull, hfull]
    exact ⟨rfl, rfl, rfl, LaneRec.ClosesBatches.of_closeBatch rfl⟩
  · rw [LaneRec.passEvents_eq]

end Sys2Proof.Proofs
end

section
/-! PROOFS. The gap handling: what each of its parts does to one lane, and that the order of the lanes decides only how the freed records
stand on the free list (R135, R136, R137). -/

namespace Sys2Proof.Machine

open Sys2Proof.Safety

/-! ## Records freed -/

/-- From `s` to `t` the records of these cards were freed, one after another (R27). -/
def State.Frees (s : State) (cs : List Card) (t : State) : Prop :=
  t.free = s.free ++ cs.map Card.record ∧
    ∀ b n, t.entry b n = { s.entry b n with refs := (s.entry b n).refs - cs.countP (fun c => c.bank = b ∧ c.entry = n) }

theorem State.Frees.of_same {s t : State} (hfree : t.free = s.free) (hentry : ∀ b n, t.entry b n = s.entry b n) : s.Frees [] t :=
  ⟨by simp [hfree], fun b n => by simp [hentry]⟩

theorem State.Frees.trans {s t u : State} {cs ds : List Card} (h : s.Frees cs t) (g : t.Frees ds u) : s.Frees (cs ++ ds) u := by
  obtain ⟨hfree, hentry⟩ := h
  obtain ⟨gfree, gentry⟩ := g
  refine ⟨by rw [gfree, hfree, List.map_append, List.append_assoc], fun b n => ?_⟩
  rw [gentry, hentry, List.countP_append, Nat.sub_add_eq]

/-- Cards counted and freed, from a state that differs from `s` in neither the free list nor the entries. -/
theorem State.Frees.release {s t : State} (h : s.Frees [] t) (place : Card → Lane) (count : Card → LaneRec → LaneRec) (cs : List Card) :
    s.Frees cs (t.release place count cs) :=
  h.trans ⟨t.release_free place count cs, t.entry_release place count cs⟩

/-- Where one element's part gains members and the others' stay, the joined parts gain those members. -/
theorem flatMap_perm_of_gain {α β : Type} [DecidableEq α] {xs : List α} {f g : α → List β} {a : α} {new : List β} (hn : xs.Nodup)
    (ha : a ∈ xs) (hgain : (g a).Perm (f a ++ new)) (hothers : ∀ b, a ≠ b → g b = f b) : (xs.flatMap g).Perm (xs.flatMap f ++ new) := by
  have hperm : xs.Perm (a :: xs.erase a) := List.perm_cons_erase ha
  have hrest : (xs.erase a).flatMap g = (xs.erase a).flatMap f :=
    List.flatMap_congr fun b hb => hothers b fun e => ((List.Nodup.mem_erase_iff hn).1 hb).1 e.symm
  calc (xs.flatMap g).Perm (g a ++ (xs.erase a).flatMap g) := hperm.flatMap_right g
    List.Perm _ (f a ++ new ++ (xs.erase a).flatMap f) := by rw [hrest]; exact hgain.append_right _
    List.Perm _ ((f a ++ (xs.erase a).flatMap f) ++ new) := by
      rw [List.append_assoc, List.append_assoc]
      exact List.perm_append_comm.append_left (f a)
    List.Perm _ (xs.flatMap f ++ new) := (hperm.symm.flatMap_right f).append_right new

/-- The gate entries of the six lanes are the gate list's (R26). -/
theorem flatMap_ofLane_perm (gate : List Card) : ((List.finRange 6).flatMap (fun l => ofLane l gate)).Perm gate := by
  induction gate with
  | nil => simp [ofLane]
  | cons c gate ih =>
    have hgain : (ofLane c.lane (c :: gate)).Perm (ofLane c.lane gate ++ [c]) := by
      rw [ofLane, List.filter_cons_of_pos (by simp)]
      exact List.perm_append_comm (l₁ := [c])
    have hothers : ∀ l, c.lane ≠ l → ofLane l (c :: gate) = ofLane l gate := fun l hl => List.filter_cons_of_neg (by simpa using hl)
    calc ((List.finRange 6).flatMap (fun l => ofLane l (c :: gate))).Perm ((List.finRange 6).flatMap (fun l => ofLane l gate) ++ [c]) :=
        flatMap_perm_of_gain (List.nodup_finRange 6) (List.mem_finRange c.lane) hgain hothers
      List.Perm _ (gate ++ [c]) := ih.append_right [c]
      List.Perm _ (c :: gate) := List.perm_append_comm

/-! ## One part of one lane -/

/-- The cards at the head of the web list for which `p` holds are retired and counted (R136). -/
def LaneRec.retired (p : Card → Bool) (r : LaneRec) : LaneRec :=
  ((r.web.takeWhile p).map Card.retire).foldl (fun r c => r.countRejected c) { r with web := r.web.dropWhile p }

/-- What part `n` of the gap handling does to the lane's record, the lane having these gate entries (R135, R136, R137). -/
def LaneRec.gapPart (m : StationMap) (last k : Index) (entries : List Card) (n : Nat) (r : LaneRec) : LaneRec :=
  match n with
  | 0 => entries.foldl (fun r c => r.countUnverified c) r
  | 1 => r.retired (retiredAt m.e k)
  | 2 => { r with web := r.web.map (fun c => c.addReasonIf (stoodAtStation m last k c) .indexGap) }
  | _ => r

/-- The cards whose records part `n` of the gap handling frees, for a lane with these gate entries and this web list. -/
def gapFreed (e : Nat) (k : Index) (entries web : List Card) (n : Nat) : List Card :=
  match n with
  | 0 => entries
  | 1 => web.takeWhile (retiredAt e k)
  | _ => []

theorem State.voidGate_eq (s : State) (l : Lane) :
    s.voidGate l = (s.withGate (s.gate.filter (fun c => !decide (c.lane = l)))).release Card.lane LaneRec.countUnverified (s.gateOf l) := rfl

theorem State.lane_of_mem_gateOf {s : State} {l : Lane} {c : Card} (h : c ∈ s.gateOf l) : c.lane = l := by
  simpa using (List.mem_filter.1 h).2

theorem lane_gapPart_self (last k : Index) (n : Nat) (l : Lane) (s : State) :
    (gapPart last k n l s).lane l = (s.lane l).gapPart s.map last k (s.gateOf l) n := by
  match n with
  | 0 =>
    show (s.voidGate l).lane l = _
    rw [State.voidGate_eq, State.lane_release_self _ _ fun _ => State.lane_of_mem_gateOf]
    rfl
  | 1 =>
    show (s.retireWeb k l).lane l = _
    rw [State.retireWeb_eq, State.lane_release_self _ _ fun _ _ => rfl, State.lane_updLane_self]
    exact (List.foldl_map (f := Card.retire) (g := fun r c => LaneRec.countRejected c r)).symm
  | 2 => exact s.lane_updLane_self l _
  | _ + 3 => rfl

theorem lane_gapPart_ne (last k : Index) (n : Nat) {l m : Lane} (h : l ≠ m) (s : State) :
    (gapPart last k n l s).lane m = s.lane m := by
  match n with
  | 0 =>
    show (s.voidGate l).lane m = _
    rw [State.voidGate_eq, State.lane_release_ne _ _ (fun _ => State.lane_of_mem_gateOf) h]
    rfl
  | 1 =>
    show (s.retireWeb k l).lane m = _
    rw [State.retireWeb_eq, State.lane_release_ne _ _ (fun _ _ => rfl) h, State.lane_updLane_ne _ _ h]
  | 2 => exact s.lane_updLane_ne _ h
  | _ + 3 => rfl

/-- Voiding takes the lane's gate entries, and no part takes any other. -/
theorem gateOf_gapPart (last k : Index) (n : Nat) (l m : Lane) (s : State) :
    (gapPart last k n l s).gateOf m = if l = m ∧ n = 0 then [] else s.gateOf m := by
  match n with
  | 0 =>
    by_cases hm : l = m
    · subst hm
      rw [if_pos ⟨rfl, rfl⟩]
      exact s.gateOf_voidGate l
    · rw [if_neg (fun h => hm h.1)]
      show (s.voidGate l).gateOf m = _
      have hkept : (s.voidGate l).gateOf m = (s.gateOf m).filter (fun c => !decide (c.lane = l)) :=
        congrArg Track.gate (s.track_removeGate _ _ (fun c r g => r.track_countUnverified c g) m)
      rw [hkept, List.filter_eq_self]
      intro c hc
      simpa [State.lane_of_mem_gateOf hc] using Ne.symm hm
  | 1 =>
    show (s.retireWeb k l).gateOf m = _
    rw [State.retireWeb_eq, State.gateOf, State.release_gate, State.updLane_gate, if_neg (by simp), State.gateOf]
  | 2 => rw [if_neg (by simp)]; rfl
  | _ + 3 => rw [if_neg (by simp)]; rfl

theorem frees_gapPart (last k : Index) (n : Nat) (l : Lane) (s : State) :
    s.Frees (gapFreed s.map.e k (s.gateOf l) (s.lane l).web n) (gapPart last k n l s) := by
  match n with
  | 0 =>
    show s.Frees _ (s.voidGate l)
    rw [State.voidGate_eq]
    exact (State.Frees.of_same (s.withGate_free _) (s.entry_withGate _)).release _ _ _
  | 1 =>
    show s.Frees _ (s.retireWeb k l)
    rw [State.retireWeb_eq]
    exact (State.Frees.of_same (s.updLane_free l _) (s.entry_updLane l _)).release _ _ _
  | 2 => exact .of_same (s.mapWeb_free l _) (s.entry_updLane l _)
  | _ + 3 => exact .of_same rfl fun _ _ => rfl

/-! ## The parts of one lane, in order -/

/-- A lane's record after the first `n` parts of its gap handling. -/
def LaneRec.gapParts (m : StationMap) (last k : Index) (entries : List Card) (r : LaneRec) : Nat → LaneRec
  | 0 => r
  | n + 1 => (r.gapParts m last k entries n).gapPart m last k entries n

/-- Voiding leaves the web list. -/
theorem LaneRec.web_gapParts_one (m : StationMap) (last k : Index) (entries : List Card) (r : LaneRec) :
    (r.gapParts m last k entries 1).web = r.web := by
  show (entries.foldl (fun r c => r.countUnverified c) r).web = r.web
  rw [LaneRec.foldl_frame countsRejected_countUnverified.frame]

/-- The lane's gate entries are read at its first part, when it has them still. -/
theorem LaneRec.gapPart_entries (m : StationMap) (last k : Index) (entries : List Card) (n : Nat) (r : LaneRec) :
    r.gapPart m last k (if n = 0 then entries else []) n = r.gapPart m last k entries n := by
  match n with
  | 0 => rfl
  | 1 => rfl
  | 2 => rfl
  | _ + 3 => rfl

/-- What a part frees was on the lane's lists when the gap handling began. -/
theorem gapFreed_gapParts (m : StationMap) (last k : Index) (entries : List Card) (n : Nat) (r : LaneRec) :
    gapFreed m.e k (if n = 0 then entries else []) (r.gapParts m last k entries n).web n = gapFreed m.e k entries r.web n := by
  match n with
  | 0 => rfl
  | 1 => exact congrArg (List.takeWhile (retiredAt m.e k)) (r.web_gapParts_one m last k entries)
  | _ + 2 => rfl

/-! ## The parts of all lanes, in any order -/

/-- The cards that the first `n` parts of lane `l`'s gap handling free. -/
def State.gapFreedUpTo (s : State) (k : Index) (l : Lane) (n : Nat) : List Card :=
  (List.range n).flatMap (gapFreed s.map.e k (s.gateOf l) (s.lane l).web)

theorem State.gapFreedUpTo_succ (s : State) (k : Index) (l : Lane) (n : Nat) :
    s.gapFreedUpTo k l (n + 1) = s.gapFreedUpTo k l n ++ gapFreed s.map.e k (s.gateOf l) (s.lane l).web n := by
  rw [State.gapFreedUpTo, List.range_succ, List.flatMap_append, List.flatMap_singleton]
  rfl

theorem State.gapFreedUpTo_three (s : State) (k : Index) (l : Lane) :
    s.gapFreedUpTo k l 3 = s.gateOf l ++ (s.lane l).web.takeWhile (retiredAt s.map.e k) := by
  simp [State.gapFreedUpTo, List.range_succ, gapFreed]

/-- How far the gap handling begun in `s` has come: every lane's record and gate entries are those after the parts it has taken, and the
cards these free have been freed, in some order. -/
structure GapTaken (last k : Index) (s : State) (p : Steps) : Prop where
  map : p.state.map = s.map
  next : ∀ l : Lane, p.next[l] ≤ 3
  lane : ∀ l : Lane, p.state.lane l = (s.lane l).gapParts s.map last k (s.gateOf l) p.next[l]
  gate : ∀ l : Lane, p.state.gateOf l = if p.next[l] = 0 then s.gateOf l else []
  frees : ∃ cs, s.Frees cs p.state ∧ cs.Perm ((List.finRange 6).flatMap (fun l => s.gapFreedUpTo k l p.next[l]))

theorem gapTaken_start (last k : Index) (s : State) : GapTaken last k s ⟨s, Vector.replicate 6 0⟩ where
  map := rfl
  next l := by simp
  lane l := by simp [LaneRec.gapParts]
  gate l := by simp
  frees := ⟨[], .of_same rfl fun _ _ => rfl, by simp [State.gapFreedUpTo]⟩

/-- The next part of a lane takes the gap handling one part on. -/
theorem GapTaken.advance {last k : Index} {s : State} {p : Steps} (h : GapTaken last k s p) (l : Lane) :
    GapTaken last k s (gapAdvance last k p l) := by
  by_cases h2 : p.next[l] ≤ 2
  · have hstate : (gapAdvance last k p l).state = gapPart last k p.next[l] l p.state := by rw [gapAdvance, if_pos h2]
    have hself : (gapAdvance last k p l).next[l] = p.next[l] + 1 := by rw [next_gapAdvance, if_pos ⟨rfl, h2⟩]
    have hne : ∀ m : Lane, l ≠ m → (gapAdvance last k p l).next[m] = p.next[m] := fun m hm => by
      rw [next_gapAdvance, if_neg fun hc => hm hc.1]
    obtain ⟨cs, hfrees, hperm⟩ := h.frees
    have hpart := frees_gapPart last k p.next[l] l p.state
    rw [h.map, h.gate, h.lane, gapFreed_gapParts] at hpart
    refine ⟨?_, fun m => ?_, fun m => ?_, fun m => ?_, ?_⟩
    · rw [hstate, map_eq_of_port (shrinks_gapPart last k _ l p.state).1, h.map]
    · by_cases hm : l = m
      · subst hm
        omega
      · rw [hne m hm]
        exact h.next m
    · rw [hstate]
      by_cases hm : l = m
      · subst hm
        rw [lane_gapPart_self, h.map, h.gate, h.lane, LaneRec.gapPart_entries, hself]
        rfl
      · rw [lane_gapPart_ne last k _ hm, hne m hm, h.lane]
    · rw [hstate, gateOf_gapPart, h.gate]
      by_cases hm : l = m
      · subst hm
        rw [hself, if_neg (Nat.succ_ne_zero _)]
        split_ifs with hvoid hnone
        · rfl
        · exact absurd ⟨rfl, hnone⟩ hvoid
        · rfl
      · rw [hne m hm, if_neg fun hc => hm hc.1]
    · refine ⟨_, hstate ▸ hfrees.trans hpart, (hperm.append_right _).trans ?_⟩
      refine (flatMap_perm_of_gain (List.nodup_finRange 6) (List.mem_finRange l) ?_ fun m hm => ?_).symm
      · rw [hself, State.gapFreedUpTo_succ]
      · rw [hne m hm]
  · have hsame : gapAdvance last k p l = p := if_neg h2
    rw [hsame]
    exact h

/-- The gap handling takes every part of every lane. -/
theorem gapTaken_gapHandling (last k : Index) (order : List Lane) (s : State) :
    ∃ p, GapTaken last k (s.latchChip .indexGap (bytes16 last ++ bytes16 k)) p ∧ p.state = gapHandling last k order s ∧
      ∀ l : Lane, p.next[l] = 3 := by
  have hcount : ∀ l : Lane, ((List.replicate 3 (List.finRange 6)).flatten).count l = 3 := by decide
  have hend := foldl_keeps (GapTaken last k _) (gapAdvance last k) (order ++ (List.replicate 3 (List.finRange 6)).flatten) _
    (gapTaken_start last k (s.latchChip .indexGap (bytes16 last ++ bytes16 k))) fun p l _ hp => hp.advance l
  refine ⟨_, hend, rfl, fun l => le_antisymm (hend.next l) (le_trans ?_ (next_foldl_gapAdvance last k _ _ l))⟩
  rw [List.count_append, hcount]
  omega

/-- Each lane's record is that after its three parts. -/
theorem lane_gapHandling (last k : Index) (order : List Lane) (s : State) (l : Lane) :
    (gapHandling last k order s).lane l = (s.lane l).gapParts s.map last k (s.gateOf l) 3 := by
  obtain ⟨p, h, hstate, hnext⟩ := gapTaken_gapHandling last k order s
  rw [← hstate, h.lane, hnext]
  rfl

theorem gate_gapHandling (last k : Index) (order : List Lane) (s : State) : (gapHandling last k order s).gate = [] := by
  obtain ⟨p, h, hstate, hnext⟩ := gapTaken_gapHandling last k order s
  refine List.eq_nil_iff_forall_not_mem.2 fun c hc => ?_
  have hmem : c ∈ (gapHandling last k order s).gateOf c.lane := List.mem_filter.2 ⟨hc, by simp⟩
  rw [← hstate, h.gate, hnext] at hmem
  exact List.not_mem_nil hmem

/-- The gate entries and the retired cards are freed, in some order (R135, R136). -/
theorem frees_gapHandling (last k : Index) (order : List Lane) (s : State) :
    ∃ cs, s.Frees cs (gapHandling last k order s) ∧
      cs.Perm (s.gate ++ (List.finRange 6).flatMap (fun l => (s.lane l).web.takeWhile (retiredAt s.map.e k))) := by
  obtain ⟨p, h, hstate, hnext⟩ := gapTaken_gapHandling last k order s
  obtain ⟨cs, hfrees, hperm⟩ := h.frees
  rw [hstate] at hfrees
  simp only [hnext, State.gapFreedUpTo_three] at hperm
  exact ⟨cs, hfrees, hperm.trans ((List.flatMap_append_perm _ _ _).symm.trans ((flatMap_ofLane_perm s.gate).append_right _))⟩

/-- The chip alarms change by INDEX_GAP alone. -/
theorem chipAlarms_gapHandling (last k : Index) (order : List Lane) (s : State) :
    (gapHandling last k order s).chipAlarms = (s.latchChip .indexGap (bytes16 last ++ bytes16 k)).chipAlarms := by
  have hfree : ∀ (t : State) (m : Lane) (f : LaneRec → LaneRec) (c : Card), ((t.updLane m f).freeRecord c).chipAlarms = t.chipAlarms :=
    fun t m f c => by rw [State.freeRecord_chipAlarms, State.updLane_chipAlarms]
  refine gapHandling_keeps (fun t => t.chipAlarms = _) last k order s rfl fun n l t ht => ?_
  unfold gapPart
  split
  · exact t.removeGate_keeps (fun u => u.chipAlarms = _) _ _ ht fun c _ _ u hu => (hfree u _ _ c).trans hu
  · exact foldl_keeps (fun u : State => u.chipAlarms = _) _ _ _ ht fun u c _ hu => (hfree u _ _ c).trans hu
  · exact ht
  · exact ht

/-! ## The record of a lane whose gap handling is done -/

theorem Card.firstReason_retire (c : Card) : c.retire.firstReason = if c.reasons = [] then some .indexGap else c.firstReason := by
  unfold Card.retire Card.addReasonIf Card.firstReason
  by_cases h : c.reasons = []
  · simp [h, Card.reasons_addReason]
  · simp [h]

/-- Retirement makes INDEX_GAP the first reason of the cards that had none (R136). -/
theorem firstReasons_retire (cs : List Card) (why : Reason) : firstReasons (cs.map Card.retire) why =
    if why = .indexGap then firstReasons cs why + cs.countP (fun c => c.reasons = []) else firstReasons cs why := by
  induction cs with
  | nil => simp [firstReasons]
  | cons c cs ih =>
    simp only [firstReasons, List.map_cons, List.countP_cons, Card.firstReason_retire] at ih ⊢
    rw [ih]
    by_cases hc : c.reasons = []
    · have hnone : c.firstReason = none := by rw [Card.firstReason, hc]; rfl
      by_cases hw : why = .indexGap
      · simp [hc, hnone, hw]; omega
      · simp [hc, hnone, hw, Ne.symm hw]
    · by_cases hw : why = .indexGap
      · simp [hc, hw]; omega
      · simp [hc, hw]

/-- Retirement changes the web list and the counters. -/
theorem LaneRec.retired_eq (p : Card → Bool) (r : LaneRec) :
    r.retired p = { r with web := r.web.dropWhile p, counters := (r.retired p).counters } :=
  LaneRec.foldl_frame countsRejected_countRejected.frame _ _

/-- The lane's gate entries voided, and then its cards retired (R135, R136). -/
def LaneRec.gapCounted (p : Card → Bool) (entries : List Card) (r : LaneRec) : LaneRec :=
  (entries.foldl (fun r c => r.countUnverified c) r).retired p

theorem LaneRec.gapCounted_eq (p : Card → Bool) (entries : List Card) (r : LaneRec) :
    r.gapCounted p entries = { r with web := r.web.dropWhile p, counters := (r.gapCounted p entries).counters } := by
  rw [LaneRec.gapCounted, LaneRec.retired_eq]
  generalize LaneRec.counters (LaneRec.retired _ _) = counters
  rw [LaneRec.foldl_frame countsRejected_countUnverified.frame]

/-- What the gap handling leaves of a lane: of its web list the cards that were not retired, some of them marked, and its counters. -/
theorem LaneRec.gapParts_three (m : StationMap) (last k : Index) (entries : List Card) (r : LaneRec) :
    r.gapParts m last k entries 3 = { r with
      web := (r.web.dropWhile (retiredAt m.e k)).map (fun c => c.addReasonIf (stoodAtStation m last k c) .indexGap)
      counters := (r.gapCounted (retiredAt m.e k) entries).counters } := by
  have hcounted : r.gapParts m last k entries 2 = r.gapCounted (retiredAt m.e k) entries := rfl
  rw [LaneRec.gapParts, hcounted, LaneRec.gapCounted_eq]
  rfl

/-- The counters are raised for the voided entries, and then for the retired cards. -/
theorem LaneRec.counters_gapCounted (p : Card → Bool) (entries : List Card) (r : LaneRec) :
    ∃ q : LaneRec, (∀ j : Fin 21, q.counters[j] = (entries.foldl (fun r c => r.countUnverified c) r).counters[j]) ∧
      ∀ j : Fin 21, (r.gapCounted p entries).counters[j] =
        (((r.web.takeWhile p).map Card.retire).foldl (fun r c => r.countRejected c) q).counters[j] := by
  have hweb : (entries.foldl (fun r c => r.countUnverified c) r).web = r.web := by
    rw [LaneRec.foldl_frame countsRejected_countUnverified.frame]
  rw [LaneRec.gapCounted, LaneRec.retired, hweb]
  refine ⟨_, ?_, fun _ => rfl⟩
  exact fun _ => rfl

end Sys2Proof.Machine

namespace Sys2Proof.Proofs

open Sys2Proof.Machine Sys2Proof.Safety

theorem retiredAt_eq (e : Nat) (k : Index) : retiredAt e k = fun c => decide (e ≤ indexDistance c.formed (k - 1)) :=
  funext fun c => by rw [indexDistance_eq, retiredAt]

theorem stoodAtStation_iff (m : StationMap) (last k : Index) (c : Card) : stoodAtStation m last k c = true ↔
    ∃ o ∈ [m.a, m.b, m.c, m.d], indexDistance c.formed last ≤ o ∧ o ≤ indexDistance c.formed (k - 1) := by
  simp only [stoodAtStation, List.any_eq_true, Bool.and_eq_true, decide_eq_true_eq, indexDistance_eq]

/-- Settles O29: whatever the order, each lane takes its three parts, and each part is about its own lane's cards alone; so the order
shows only in the free list. -/
theorem gapHandlingAnyOrder : Obligations.GapHandlingAnyOrder := by
  intro last k order s t past stood
  have hpast : retiredAt s.map.e k = past := retiredAt_eq s.map.e k
  obtain ⟨cs, ⟨hfree, hentry⟩, hperm⟩ := frees_gapHandling last k order s
  rw [hpast] at hperm
  refine ⟨gate_gapHandling last k order s, chipAlarms_gapHandling last k order s, ⟨cs.map Card.record, hfree, hperm.map Card.record⟩,
    fun b e => (hentry b e).trans (by rw [hperm.countP_eq]), fun l => ?_⟩
  intro gone
  have hrecord := (s.lane l).gapParts_three s.map last k (s.gateOf l)
  rw [← lane_gapHandling last k order s l, hpast] at hrecord
  obtain ⟨q, hq, hcounted⟩ := (s.lane l).counters_gapCounted past (s.gateOf l)
  have hcounters : ∀ j : Fin 21,
      (t.lane l).counters[j] = ((gone.map Card.retire).foldl (fun r c => r.countRejected c) q).counters[j] :=
    fun j => (congrArg (fun r : LaneRec => r.counters[j]) hrecord).trans (hcounted j)
  have hvoid := countsRejected_countUnverified
  have hretire := countsRejected_countRejected
  refine ⟨(congrArg LaneRec.web hrecord).trans (List.map_congr_left fun c _ => ?_), (hcounters 2).trans ?_,
    fun r => (hcounters r.counter).trans ?_, (hcounters 18).trans ?_, fun i hi => (hcounters i).trans ?_, by rw [hrecord]⟩
  · by_cases hc : stood c
    · rw [if_pos hc, (stoodAtStation_iff s.map last k c).2 hc]
      rfl
    · rw [if_neg hc, Bool.eq_false_of_not_eq_true (mt (stoodAtStation_iff s.map last k c).1 hc)]
      rfl
  · rw [hretire.counters_every _ _ (by decide) (by decide), hq, hvoid.counters_every _ _ (by decide) (by decide), List.length_map,
      BitVec.ofNat_add, BitVec.add_assoc]
    rfl
  · rw [hretire.counters_reason _ _ (by cases r <;> decide), hq, hvoid.counters_reason _ _ (by cases r <;> decide),
      firstReasons_retire, BitVec.ofNat_add, BitVec.add_assoc]
  · rw [hretire.counters_other _ _ (by decide) (by decide), hq, hvoid.counters_every _ _ (by decide) (by decide)]
    rfl
  · rw [hretire.counters_other _ _ (by revert i; decide) (by revert i; decide), hq,
      hvoid.counters_other _ _ (by revert i; decide) (by revert i; decide)]

end Sys2Proof.Proofs
end

section
/-! PROOFS. The words and the payloads that command slots carry, and what becomes of a command slot in ACTIVE and in MONITOR (R134, R146,
R149 to R151, R153, R154). -/

namespace Sys2Proof.Machine

open Sys2Proof.Safety

/-! ## Words byte by byte -/

/-- A word followed by a byte, high byte first (R153). -/
theorem toNat_append_byte {n : Nat} (w : BitVec n) (b : Byte) : (w ++ b).toNat = 256 * w.toNat + b.toNat := by
  rw [BitVec.toNat_append, ← Nat.shiftLeft_add_eq_or_of_lt b.isLt, Nat.shiftLeft_eq, Nat.mul_comm]

/-- A byte of a word, counted in bits from its low end. -/
theorem toNat_extractByte {n : Nat} (w : BitVec n) (i : Nat) : (w.extractLsb' i 8).toNat = w.toNat / 2 ^ i % 256 := by
  rw [BitVec.extractLsb'_toNat, Nat.shiftRight_eq_div_pow]

theorem toNat_bytes16 (w : BitVec 16) : (bytes16 w).map BitVec.toNat = [w.toNat / 256, w.toNat % 256] := by
  have hw := w.isLt
  simp only [bytes16, List.map_cons, List.map_nil, toNat_extractByte, List.cons.injEq, and_true]
  omega

theorem toNat_bytes24 (w : BitVec 24) :
    (bytes24 w).map BitVec.toNat = [w.toNat / 65536, w.toNat / 256 % 256, w.toNat % 256] := by
  have hw := w.isLt
  simp only [bytes24, List.map_cons, List.map_nil, toNat_extractByte, List.cons.injEq, and_true]
  omega

theorem toNat_bytes32 (w : BitVec 32) : (bytes32 w).map BitVec.toNat =
    [w.toNat / 16777216, w.toNat / 65536 % 256, w.toNat / 256 % 256, w.toNat % 256] := by
  have hw := w.isLt
  simp only [bytes32, List.map_cons, List.map_nil, toNat_extractByte, List.cons.injEq, and_true]
  omega

theorem toNat_word16 (f : List Byte) (i : Nat) : (word16 f i).toNat = 256 * natAt f i + natAt f (i + 1) :=
  toNat_append_byte _ _

theorem toNat_word24 (f : List Byte) (i : Nat) :
    (word24 f i).toNat = 65536 * natAt f i + 256 * natAt f (i + 1) + natAt f (i + 2) := by
  rw [word24, toNat_append_byte, toNat_append_byte, natAt, natAt, natAt]
  omega

theorem toNat_word32 (f : List Byte) (i : Nat) : (word32 f i).toNat =
    16777216 * natAt f i + 65536 * natAt f (i + 1) + 256 * natAt f (i + 2) + natAt f (i + 3) := by
  rw [word32, toNat_append_byte, toNat_append_byte, toNat_append_byte, natAt, natAt, natAt, natAt]
  omega

/-! ## Payloads -/

/-- A list filled up to `n` places, byte by byte: those past its end read 0 (R154). -/
theorem padTo_eq_map (n : Nat) (bs : List Byte) : padTo n bs = (List.range n).map (fun j => bs.getD j 0) := by
  refine List.ext_getElem (by simp) fun j hj _ => ?_
  rw [length_padTo] at hj
  simp only [padTo, List.getElem_map, List.getElem_range, List.getElem_append, List.length_take, List.getElem_take, List.getElem_replicate,
    List.getD_eq_getElem?_getD]
  split
  · next h => rw [List.getElem?_eq_getElem (by omega), Option.getD_some]
  · next h => rw [List.getElem?_eq_none (by omega), Option.getD_none]

theorem padTo_map_byteOf (n : Nat) (ps : List Nat) : padTo n (ps.map byteOf) = (List.range n).map (fun j => byteOf (ps.getD j 0)) := by
  rw [padTo_eq_map]
  exact List.map_congr_left fun j _ => ps.getD_map 0 byteOf

theorem length_payload (cmd : Command) : cmd.payload.length = 14 := by
  cases cmd <;> exact length_padTo _ _

theorem payload_load (go : Bool) (serial : Serial) (cavities : Nat) (counts : List Nat) : (Command.load go serial cavities counts).payload =
    actionCode go :: bytes24 serial ++ [byteOf cavities] ++ pack8 counts ++ List.replicate 5 0 := rfl

theorem payload_inspect (go : Bool) (serial : Serial) (cavities : Nat) (sku : Sku) : (Command.inspect go serial cavities sku).payload =
    actionCode go :: bytes24 serial ++ [byteOf cavities] ++ bytes32 sku ++ List.replicate 5 0 := rfl

theorem payload_card (go : Bool) (serial : Serial) (sku : Sku) :
    (Command.card go serial sku).payload = actionCode go :: bytes24 serial ++ bytes32 sku ++ List.replicate 6 0 := rfl

theorem payload_sealing (go : Bool) (serial : Serial) (dwell : Nat) (ps : List Nat) : (Command.sealing go serial dwell ps).payload =
    actionCode go :: bytes24 serial ++ nat16 dwell ++ padTo 8 (ps.map byteOf) := padTo_of_length (by simp [nat16])

/-- A reason's code is its place in the table of R154, counted from 1. -/
theorem Reason.code_eq (r : Reason) : r.code = [Reason.loadShort, .loadOver, .inspectFail, .weightOut, .noCard, .stationSilent, .sealNoHeat,
    .sealUnderdose, .sealOverdose, .sealUnconfirmed, .forced, .lanePurge, .indexGap].idxOf r + 1 := by
  cases r <;> rfl

theorem reasonCode_eq (reason : Option Reason) : reasonCode reason = (reason.map (fun r => [Reason.loadShort, .loadOver, .inspectFail,
    .weightOut, .noCard, .stationSilent, .sealNoHeat, .sealUnderdose, .sealOverdose, .sealUnconfirmed, .forced, .lanePurge,
    .indexGap].idxOf r + 1)).getD 0 := by
  cases reason with
  | none => rfl
  | some r => exact r.code_eq

theorem payload_gate (reject : Bool) (serial : Serial) (reason : Option Reason) : (Command.gate reject serial reason).payload =
    (if reject then 0x02#8 else 0x01#8) :: bytes24 serial ++ [byteOf (reasonCode reason)] ++ List.replicate 9 0 := rfl

/-- An event kind's code is its place in the table of R154, counted from 1. -/
theorem StackEventKind.code_eq (k : StackEventKind) : k.code =
    BitVec.ofNat 8 ([StackEventKind.add, .closeFull, .closeShort, .closeChangeover, .closeEmptyEnd].idxOf k + 1) := by
  cases k <;> rfl

/-- The four bytes of the event in a place, zeros where the list holds none (R154). -/
def eventBytes (e : Option StackEvent) : List Byte := (e.map StackEvent.bytes).getD [0, 0, 0, 0]

/-- The payload of a STACK_CMD holds three places of four bytes (R128, R154). -/
theorem payload_stack {events : List StackEvent} (h : events.length ≤ 3) : (Command.stack events).payload =
    byteOf events.length :: (List.range 3).flatMap (fun j => eventBytes events[j]?) ++ [0] := by
  match events, h with
  | [], _ => rfl
  | [_], _ => rfl
  | [_, _], _ => rfl
  | [_, _, _], _ => rfl

/-! ## A command slot in ACTIVE -/

section

variable {isRepeat : Bool} {i : Nat} {kind : Kind} {l : Lane} {w : Work} {cmd : Command}

theorem commandSlot_of_active (h : w.state.role = .active) :
    commandSlot isRepeat w (.command kind l, i) = writeCommand isRepeat i kind l w := by
  simp only [commandSlot, h]

theorem writeCommand_of_none (h : w.state.planned isRepeat kind l = none) : writeCommand isRepeat i kind l w = w := by
  unfold writeCommand
  rw [h]

/-- The planned command's slot is not present (R149). -/
theorem writeCommand_of_absent (h : w.state.planned isRepeat kind l = some cmd) (hi : slotCount w.frame ≤ i) :
    writeCommand isRepeat i kind l w = { w with state := { w.state with ring := w.state.ring.addAbsent } } := by
  unfold writeCommand
  rw [h]
  exact if_neg (by omega)

/-- The slot holds NONE (R150). -/
theorem writeCommand_of_free (h : w.state.planned isRepeat kind l = some cmd) (hi : i < slotCount w.frame)
    (ht : slotTag (slotBytes w.frame i) = tagNone) :
    writeCommand isRepeat i kind l w =
      { w with frame := putSlot w.frame i (makeSlot kind.commandTag w.state.nodeAddr cmd.payload) } := by
  unfold writeCommand
  rw [h]
  simp only [if_pos hi, if_pos ht]

/-- The slot holds anything else (R150). -/
theorem writeCommand_of_taken (h : w.state.planned isRepeat kind l = some cmd) (hi : i < slotCount w.frame)
    (ht : slotTag (slotBytes w.frame i) ≠ tagNone) :
    writeCommand isRepeat i kind l w =
      { w with state := w.state.latchChip .planConflict [byteOf i, byteAt (slotBytes w.frame i) 1] } := by
  unfold writeCommand
  rw [h]
  simp only [if_pos hi, if_neg ht]

end

/-! ## A command slot in MONITOR -/

/-- What a comparison does to the state (R151). -/
def State.compared (s : State) (i : Nat) (l : Lane) : Comparison → State
  | .agrees => s
  | .unverified => { s with ring := s.ring.addUnverified }
  | .mismatch => State.latchLane { s with ring := s.ring.addMismatch } l .planMismatch [byteOf i]

section

variable {isRepeat : Bool} {i : Nat} {kind : Kind} {l : Lane} {w : Work}

theorem commandSlot_of_monitor (h : w.state.role = .monitor) :
    commandSlot isRepeat w (.command kind l, i) = compareCommand isRepeat i kind l w := by
  simp only [commandSlot, h]

/-- A present slot is compared, and never written. -/
theorem compareCommand_of_present (hi : i < slotCount w.frame) : compareCommand isRepeat i kind l w =
    { w with state := w.state.compared i l (compareSlot kind (w.state.planned isRepeat kind l) (slotBytes w.frame i)) } := by
  unfold compareCommand
  simp only [if_pos hi]
  cases compareSlot kind (w.state.planned isRepeat kind l) (slotBytes w.frame i) <;> rfl

/-- Without a present slot a planned command is counted absent (R149). -/
theorem compareCommand_of_absent (hi : slotCount w.frame ≤ i) : compareCommand isRepeat i kind l w =
    if (w.state.planned isRepeat kind l).isSome then { w with state := { w.state with ring := w.state.ring.addAbsent } } else w := by
  unfold compareCommand
  simp only [if_neg (Nat.not_lt.2 hi)]

end

/-- The number of payload bytes that are compared (R151). -/
def comparedBytes (kind : Kind) (plan : List Byte) : Nat :=
  if kind = .sealing then 14 else if kind = .stack then 1 + 4 * natAt plan 0 else 4

theorem comparedEqual_iff (kind : Kind) (plan slot : List Byte) : comparedEqual kind plan slot = true ↔
    plan.take (comparedBytes kind plan) = slot.take (comparedBytes kind plan) := by
  cases kind <;> exact decide_eq_true_iff

/-- The slot agrees with the planned command in its tag and in every compared byte (R151). -/
def SlotAgrees (kind : Kind) (cmd : Command) (slot : List Byte) : Prop :=
  slotTag slot = kind.commandTag ∧
    cmd.payload.take (comparedBytes kind cmd.payload) = (slotPayload slot).take (comparedBytes kind cmd.payload)

/-- A planned command in a slot that holds NONE is not verified (R151). -/
theorem compareSlot_of_free (kind : Kind) (cmd : Command) {slot : List Byte} (ht : slotTag slot = tagNone) :
    compareSlot kind (some cmd) slot = .unverified := if_pos ht

theorem compareSlot_of_unplanned_free (kind : Kind) {slot : List Byte} (ht : slotTag slot = tagNone) :
    compareSlot kind none slot = .agrees := if_pos ht

/-- A slot that holds anything where no command is planned (R151). -/
theorem compareSlot_of_unplanned_taken (kind : Kind) {slot : List Byte} (ht : slotTag slot ≠ tagNone) :
    compareSlot kind none slot = .mismatch := if_neg ht

theorem compareSlot_of_agrees {kind : Kind} {cmd : Command} {slot : List Byte} (ht : slotTag slot ≠ tagNone)
    (h : SlotAgrees kind cmd slot) : compareSlot kind (some cmd) slot = .agrees := by
  obtain ⟨htag, hbytes⟩ := h
  simp only [compareSlot, if_neg ht]
  exact if_pos ⟨htag, (comparedEqual_iff _ _ _).2 hbytes⟩

theorem compareSlot_of_differs {kind : Kind} {cmd : Command} {slot : List Byte} (ht : slotTag slot ≠ tagNone)
    (h : ¬ SlotAgrees kind cmd slot) : compareSlot kind (some cmd) slot = .mismatch := by
  simp only [compareSlot, if_neg ht]
  exact if_neg fun ⟨htag, hbytes⟩ => h ⟨htag, (comparedEqual_iff _ _ _).1 hbytes⟩

/-- A written command slot: tag, node address, and the fourteen payload bytes as they are (R150, R153). -/
theorem makeSlot_payload (tag : Byte) (addr : BitVec 6) (cmd : Command) :
    makeSlot tag addr cmd.payload = [tag, addr.zeroExtend 8] ++ cmd.payload := by
  rw [makeSlot, padTo_of_length (length_payload cmd)]
  rfl

end Sys2Proof.Machine

namespace Sys2Proof.Proofs

open Sys2Proof.Machine Sys2Proof.Safety

/-- Settles O33: the payloads are those of R154 by evaluation, and a command slot is written or compared by what it holds. -/
theorem commandSlotHandling : Obligations.CommandSlotHandling := by
  refine ⟨rfl, fun w16 w24 w32 => ⟨toNat_bytes16 w16, toNat_bytes24 w24, toNat_bytes32 w32⟩,
    fun f i => ⟨toNat_word16 f i, toNat_word24 f i, toNat_word32 f i⟩, fun go serial cavities counts sku dwell ps => ?_,
    fun reject serial reason => ?_, fun events hlen => ?_, fun isRepeat use i f s huse => ?_, fun isRepeat kind l i f s => ?_⟩
  · refine ⟨payload_load go serial cavities counts, payload_inspect go serial cavities sku, payload_card go serial sku, ?_⟩
    rw [payload_sealing, padTo_map_byteOf]
    rfl
  · rw [payload_gate, reasonCode_eq]
    rfl
  · have hbytes : eventBytes = fun e => (e.map StackEvent.bytes).getD [0, 0, 0, 0] := rfl
    have hevent : StackEvent.bytes = fun e => e.kind.code :: bytes16 e.number ++ [byteOf e.count] := rfl
    rw [payload_stack hlen, hbytes, hevent, funext StackEventKind.code_eq]
    rfl
  · cases use with
    | command kind l => exact absurd rfl (huse kind l)
    | unused => rfl
    | report kind l => rfl
    | status => rfl
  · intro w slot plan absent
    have hplan : s.planned isRepeat kind l = plan := rfl
    refine ⟨fun hrole => ?_, fun hrole => ?_⟩
    · have hw : w = writeCommand isRepeat i kind l ⟨s, f⟩ := commandSlot_of_active hrole
      refine ⟨fun hnone => hw.trans (writeCommand_of_none (hplan.trans hnone)), fun cmd hcmd => ?_⟩
      have hcmd' : (Work.mk s f).state.planned isRepeat kind l = some cmd := hplan.trans hcmd
      refine ⟨fun hi => hw.trans (writeCommand_of_absent hcmd' hi), fun hi ht => ?_,
        fun hi ht => hw.trans (writeCommand_of_taken hcmd' hi ht)⟩
      rw [hw, writeCommand_of_free hcmd' hi ht, makeSlot_payload]
      rfl
    · intro mismatch
      have hw : w = compareCommand isRepeat i kind l ⟨s, f⟩ := commandSlot_of_monitor hrole
      have hpresent : i < slotCount f → w = ⟨s.compared i l (compareSlot kind plan slot), f⟩ := fun hi =>
        hw.trans (compareCommand_of_present hi)
      have habsent : slotCount f ≤ i → w = if plan.isSome then ⟨absent, f⟩ else ⟨s, f⟩ := fun hi =>
        hw.trans (compareCommand_of_absent hi)
      refine ⟨?_, fun hnone hempty => ?_, fun hnone hi ht => ?_, fun cmd hcmd => ?_⟩
      · rcases Nat.lt_or_ge i (slotCount f) with hi | hi
        · rw [hpresent hi]
        · rw [habsent hi, apply_ite Work.frame, ite_self]
      · rcases Nat.lt_or_ge i (slotCount f) with hi | hi
        · rw [hpresent hi, hnone, compareSlot_of_unplanned_free kind (hempty.resolve_left (Nat.not_le.2 hi))]
          rfl
        · rw [habsent hi, hnone]
          rfl
      · rw [hpresent hi, hnone, compareSlot_of_unplanned_taken kind ht]
        rfl
      · intro compared agrees
        refine ⟨fun hi => ?_, fun hi ht => ?_, fun hi ht hagrees => ?_, fun hi ht hdiffers => ?_⟩
        · rw [habsent hi, hcmd]
          rfl
        · rw [hpresent hi, hcmd, compareSlot_of_free kind cmd ht]
          rfl
        · rw [hpresent hi, hcmd, compareSlot_of_agrees ht hagrees]
          rfl
        · rw [hpresent hi, hcmd, compareSlot_of_differs ht hdiffers]
          rfl

end Sys2Proof.Proofs
end

section
/-! PROOFS. A repeat frame: it takes no stage of a pitch step, and its slots at most count and latch (R134, R146, R150, R151). -/

namespace Sys2Proof.Machine

open Sys2Proof.Safety

/-! ## What a slot may latch -/

/-- What the slots leave of the state: all but the Ring Port counters, the stop reason, PLAN_CONFLICT of the chip and PLAN_MISMATCH of the
lanes. -/
structure SlotsLatched (s t : State) : Prop where
  frame : { t with ring := s.ring, lanes := s.lanes, chipAlarms := s.chipAlarms, stopReason := s.stopReason } = s
  lane : ∀ l, { t.lane l with alarms := (s.lane l).alarms } = s.lane l
  laneAlarm : ∀ l (i : Fin 7), i ≠ LaneAlarm.planMismatch.place → (t.lane l).alarms[i] = (s.lane l).alarms[i]
  chipAlarm : ∀ i : Fin 6, i ≠ ChipAlarm.planConflict.place → t.chipAlarms[i] = s.chipAlarms[i]

theorem SlotsLatched.refl (s : State) : SlotsLatched s s := ⟨rfl, fun _ => rfl, fun _ _ _ => rfl, fun _ _ => rfl⟩

theorem SlotsLatched.trans {s t u : State} (h : SlotsLatched s t) (g : SlotsLatched t u) : SlotsLatched s u where
  frame := (congrArg (fun v : State =>
    { v with ring := s.ring, lanes := s.lanes, chipAlarms := s.chipAlarms, stopReason := s.stopReason }) g.frame).trans h.frame
  lane l := (congrArg (fun r : LaneRec => { r with alarms := (s.lane l).alarms }) (g.lane l)).trans (h.lane l)
  laneAlarm l i hi := (g.laneAlarm l i hi).trans (h.laneAlarm l i hi)
  chipAlarm i hi := (g.chipAlarm i hi).trans (h.chipAlarm i hi)

theorem SlotsLatched.ring (s : State) (r : RingCounters) : SlotsLatched s { s with ring := r } :=
  ⟨rfl, fun _ => rfl, fun _ _ _ => rfl, fun _ _ => rfl⟩

/-- Latching a chip alarm leaves the others. -/
theorem State.chipAlarm_latchChip_ne (s : State) {a : ChipAlarm} {i : Fin 6} (d : List Byte) (h : i ≠ a.place) :
    (s.latchChip a d).chipAlarms[i] = s.chipAlarms[i] :=
  Vector.getElem_set_ne a.place.isLt i.isLt fun e => h (Fin.ext e.symm)

theorem State.chipAlarm_latchChip_self (s : State) (a : ChipAlarm) (d : List Byte) :
    (s.latchChip a d).chipAlarms[a.place] = s.chipAlarms[a.place].set d :=
  Vector.getElem_set_self a.place.isLt

theorem SlotsLatched.latchChip (s : State) (d : List Byte) : SlotsLatched s (s.latchChip .planConflict d) :=
  ⟨rfl, fun _ => rfl, fun _ _ _ => rfl, fun _ hi => s.chipAlarm_latchChip_ne d hi⟩

theorem SlotsLatched.latchLane (s : State) (l : Lane) (d : List Byte) : SlotsLatched s (s.latchLane l .planMismatch d) := by
  refine ⟨rfl, fun m => ?_, fun m i hi => ?_, fun _ _ => rfl⟩
  · by_cases hm : l = m
    · subst hm
      rw [State.lane_latchLane_self]
    · rw [State.lane_latchLane_ne s _ d hm]
  · by_cases hm : l = m
    · subst hm
      rw [State.lane_latchLane_self]
      exact Vector.getElem_set_ne (LaneAlarm.planMismatch.place).isLt i.isLt fun e => hi (Fin.ext e.symm)
    · rw [State.lane_latchLane_ne s _ d hm]

theorem slotsLatched_writeCommand (isRepeat : Bool) (i : Nat) (kind : Kind) (l : Lane) (w : Work) :
    SlotsLatched w.state (writeCommand isRepeat i kind l w).state := by
  cases h : w.state.planned isRepeat kind l with
  | none => rw [writeCommand_of_none h]; exact .refl _
  | some cmd =>
    rcases Nat.lt_or_ge i (slotCount w.frame) with hi | hi
    · by_cases ht : slotTag (slotBytes w.frame i) = tagNone
      · rw [writeCommand_of_free h hi ht]; exact .refl _
      · rw [writeCommand_of_taken h hi ht]; exact .latchChip _ _
    · rw [writeCommand_of_absent h hi]; exact .ring _ _

theorem slotsLatched_compared (s : State) (i : Nat) (l : Lane) (c : Comparison) : SlotsLatched s (s.compared i l c) := by
  cases c with
  | agrees => exact .refl s
  | unverified => exact .ring s _
  | mismatch => exact (SlotsLatched.ring s _).trans (.latchLane _ l _)

theorem slotsLatched_compareCommand (isRepeat : Bool) (i : Nat) (kind : Kind) (l : Lane) (w : Work) :
    SlotsLatched w.state (compareCommand isRepeat i kind l w).state := by
  rcases Nat.lt_or_ge i (slotCount w.frame) with hi | hi
  · rw [compareCommand_of_present hi]; exact slotsLatched_compared _ i l _
  · rw [compareCommand_of_absent hi]
    split
    · exact .ring _ _
    · exact .refl _

theorem slotsLatched_commandSlot (isRepeat : Bool) (w : Work) (entry : SlotUse × Nat) :
    SlotsLatched w.state (commandSlot isRepeat w entry).state := by
  obtain ⟨use, i⟩ := entry
  cases use with
  | command kind l =>
    cases hrole : w.state.role with
    | active => rw [commandSlot_of_active hrole]; exact slotsLatched_writeCommand isRepeat i kind l w
    | monitor => rw [commandSlot_of_monitor hrole]; exact slotsLatched_compareCommand isRepeat i kind l w
    | bypass => simp only [commandSlot, hrole]; exact .refl _
  | unused => exact .refl _
  | report kind l => exact .refl _
  | status => exact .refl _

theorem slotsLatched_writeStatus (w : Work) : SlotsLatched w.state (writeStatus w).state := by
  unfold writeStatus
  split
  · exact .refl _
  · split
    · exact .refl _
    · exact .ring _ _

theorem slotsLatched_finishCycle (isRepeat : Bool) (f : Frame) (s : State) : SlotsLatched s (finishCycle isRepeat f s).state :=
  finishCycle_keeps (fun w => SlotsLatched s w.state) isRepeat f s (.refl s) (fun w e h => h.trans (slotsLatched_commandSlot isRepeat w e))
    (fun w h => h.trans (slotsLatched_writeStatus w)) (fun _ h => h)

/-! ## No stage is taken -/

/-- Before its pitch steps a repeat restarts the timer, takes the pending role and latches INDEX_REPEAT (R13, R134, R143). -/
theorem beginCycle_again (f : Frame) (gapOrder : List Lane) (s : State) :
    beginCycle f .again gapOrder s = (frameTaken .again s).latchChip .indexRepeat (bytes16 (frameIndex f)) := by
  rw [beginCycle_eq, if_pos rfl]
  rfl

/-- A repeat's pitch steps have ended when they begin, and with no conversion among its ticks nothing happens (R54, R134). -/
theorem runPitchSteps_again (f : Frame) {ticks : List Tick} (hconv : ∀ raw, Tick.conversion raw ∉ ticks) (s : State) :
    runPitchSteps (stepCtx f .again) ticks s = s := by
  have hended : ∀ l : Lane, (Steps.start (stepCtx f .again) s).next[l] = 8 := fun l => Vector.getElem_replicate ..
  have hticks : ticks.foldl (Steps.tick (stepCtx f .again)) (Steps.start (stepCtx f .again) s) = Steps.start (stepCtx f .again) s := by
    refine foldl_keeps (· = Steps.start (stepCtx f .again) s) _ ticks _ rfl fun p t ht hp => ?_
    cases t with
    | conversion raw => exact absurd ht (hconv raw)
    | stage l =>
      rw [hp]
      exact Steps.advance_of_lt _ l _ (by rw [hended]; decide)
  rw [runPitchSteps_eq (stepCtx f .again) ticks s (show 1 ≤ 8 by decide), hticks]
  refine foldl_keeps (· = s) _ (List.finRange 6) s rfl fun u l _ hu => ?_
  rw [hu]
  exact stagesFrom_of_lt _ (by rw [hended]; decide) l s

end Sys2Proof.Machine

namespace Sys2Proof.Proofs

open Sys2Proof.Machine Sys2Proof.Safety

/-- Settles O31: a repeat latches INDEX_REPEAT, takes no stage, and its slots count and latch. -/
theorem repeatChangesNoTracking : Obligations.RepeatChangesNoTracking := by
  intro f rest gapOrder ticks s h hlast hconv
  have hcls : classify s.lastIndex (frameIndex f) = .again := (classify_eq_again _ _).2 hlast
  have hexec := exec_cycleFrame_class gapOrder ticks h hcls
  rw [beginCycle_again, runPitchSteps_again f hconv] at hexec
  have hslots := slotsLatched_finishCycle (FrameClass.again = .again) f
    ((frameTaken .again s).latchChip .indexRepeat (bytes16 (frameIndex f)))
  refine ⟨_, hexec, ?_, fun l => ⟨hslots.lane l, hslots.laneAlarm l⟩, ?_, fun i hrepeat hconflict => ?_⟩
  · exact congrArg (fun v : State => { v with
      buffer := s.buffer
      phase := s.phase
      role := s.role
      pendingRole := s.pendingRole
      ring := s.ring
      timer := s.timer
      lanes := s.lanes
      chipAlarms := s.chipAlarms
      stopReason := s.stopReason }) hslots.frame
  · exact (hslots.chipAlarm _ (by decide)).trans (State.chipAlarm_latchChip_self _ _ _)
  · exact (hslots.chipAlarm i hconflict).trans (State.chipAlarm_latchChip_ne _ _ hrepeat)

end Sys2Proof.Proofs
end

section
/-! PROOFS. Device reset, RESET# and the supply, and the commands whose occasion is absent (R142, R144, R145, R157). -/

namespace Sys2Proof.Machine

open Sys2Proof.Safety

/-! ## The straps -/

/-- The node addresses are those but 0, 62 and 63 (R142). -/
theorem validAddress_iff (addr : BitVec 6) : validAddress addr = true ↔ addr.toNat ≠ 0 ∧ addr.toNat < 62 := by
  rw [validAddress, Bool.and_eq_true, decide_eq_true_eq, decide_eq_true_eq]
  omega

theorem validAddress_eq (addr : BitVec 6) : validAddress addr = decide (addr.toNat ≠ 0 ∧ addr.toNat < 62) := by
  rw [Bool.eq_iff_iff, validAddress_iff, decide_eq_true_eq]

theorem strapRole_eq (addr : BitVec 6) (high : Bool) :
    strapRole addr high = if addr.toNat = 0 ∨ 62 ≤ addr.toNat then .bypass else if high then .active else .monitor := by
  unfold strapRole
  by_cases h : validAddress addr = true
  · rw [if_pos h, if_neg (c := addr.toNat = 0 ∨ 62 ≤ addr.toNat) (by rw [validAddress_iff] at h; omega)]
  · rw [if_neg h, if_pos (by rw [validAddress_iff] at h; omega)]

/-! ## Commands without their occasion -/

/-- A service row of the table is a request served with a decision of its own (R157). -/
theorem exec_eq_serve {c : Instr} {r : Request} (h : requestFor c = some r) : ∃ decide, ∀ s, exec c s = serve r decide s := by
  cases c with
  | deviceReset | frameArrival | frameDeparture | frameProcessing | cycleFrame | pitchCountSaturation | conversionEnd
  | zoneFaultEntryAfterStep | resetAsserted | supplyRemoved => cases h
  | _ => cases h; exact ⟨_, fun _ => rfl⟩

/-- A service row does nothing when the Service Unit has no frame with its request (R157, assumption 5). -/
theorem exec_request_without_occasion {c : Instr} {r : Request} {s : State} (hc : requestFor c = some r)
    (h : ∀ f, s.handed = some f → requestOf f ≠ r) : exec c s = .next s := by
  obtain ⟨decide, hserve⟩ := exec_eq_serve hc
  rw [hserve, serve_without_occasion r decide s h]

/-- Off the ring no frame is seen, and the Pitch Timer stands (R142). -/
theorem exec_off_ring {c : Instr} {s : State} (h : ¬ InOperation s) (hc : actsOffRing c = false) : exec c s = .next s := by
  have hring : ¬ s.onRing = true := fun hr => h ((onRing_eq_true_iff s).1 hr)
  cases hr : requestFor c with
  | some r =>
    refine exec_request_without_occasion hr fun f hf => ?_
    cases (handed_none s (.inl h)).symm.trans hf
  | none =>
    cases c with
    | frameArrival | pitchCountSaturation => exact congrArg Host.Outcome.next (if_neg hring)
    | frameDeparture | frameProcessing | cycleFrame => exact congrArg Host.Outcome.next (if_neg fun hp => hring hp.1)
    | deviceReset | conversionEnd | zoneFaultEntryAfterStep | resetAsserted | supplyRemoved => cases hc
    | _ => cases hr

/-- The frame at the head of the buffer is worked on in one phase only, and there has to be one (R144, R145). -/
theorem head_without_occasion {s : State} {ph : Phase} {work : Frame → List Frame → State} (h : s.phase ≠ ph ∨ s.buffer = []) :
    (if s.onRing = true ∧ s.phase = ph then (match s.buffer with | [] => s | f :: rest => work f rest) else s) = s := by
  rcases h with h | h
  · exact if_neg fun hp => h hp.2
  · rw [h, ite_self]

end Sys2Proof.Machine

namespace Sys2Proof.Proofs

open Sys2Proof.Machine Sys2Proof.Safety

/-- Settles O5: by the straps' two readings, and by the two supply states at RESET_ASSERTED. -/
theorem resetsAndSupply : Obligations.ResetsAndSupply := by
  refine ⟨fun addr high s => ?_, fun s h => ?_, fun s h => ?_, fun s => rfl⟩
  · rw [← strapRole_eq, ← validAddress_eq]
    rfl
  · exact congrArg Host.Outcome.next (if_neg h)
  · exact congrArg Host.Outcome.next (if_pos h)

/-- Settles O6: off the ring, per kind of command; on it, by the phase of the frame in process and the request it carries. -/
theorem nothingChangesWithoutOccasion : Obligations.NothingChangesWithoutOccasion := by
  refine ⟨fun c s h hc => exec_off_ring h hc, fun c r s hc h => ?_, fun s h => ?_, fun s h => ?_, fun order ticks s h => ?_,
    fun raw l s h => ⟨?_, ?_⟩⟩
  · refine exec_request_without_occasion hc fun f hf => ?_
    obtain hp | hb | ⟨g, rest, hb, hg⟩ := h
    · cases (handed_none s (.inr (.inl hp))).symm.trans hf
    · cases (handed_none s (.inr (.inr hb))).symm.trans hf
    · rw [State.handed, hb] at hf
      split at hf
      · cases hf
        exact hg
      · cases hf
  · exact congrArg Host.Outcome.next (head_without_occasion h)
  · exact congrArg Host.Outcome.next (head_without_occasion h)
  · exact congrArg Host.Outcome.next (head_without_occasion h)
  · exact congrArg Host.Outcome.next (if_neg h)
  · exact congrArg Host.Outcome.next (if_neg h)

end Sys2Proof.Proofs
end

section
/-! PROOFS. The CRC of the ring, and the frames that the Service Unit sends in reply or counts at broadcast, byte by byte (R145, R153, R157,
R161, R162). -/

namespace Sys2Proof.Machine

/-! ## The CRC -/

theorem crcBits_eq_iterate (n c : Nat) : crcBits n c = crcBit^[n] c := by
  induction n generalizing c with
  | zero => rfl
  | succ n ih => rw [crcBits, forced_eq, ih, Function.iterate_succ_apply]

theorem crcFrom_eq_foldl (bs : List Byte) (c : Nat) :
    crcFrom bs c = bs.foldl (fun c b => crcBit^[8] (c ^^^ (256 * b.toNat))) c := by
  induction bs generalizing c with
  | nil => rfl
  | cons b bs ih => rw [crcFrom, forced_eq, ih, List.foldl_cons, crcBits_eq_iterate]

/-- The register stays within its 16 bits. -/
theorem crcBit_lt {c : Nat} (h : c < 2 ^ 16) : crcBit c < 2 ^ 16 := by
  unfold crcBit
  split
  · exact Nat.xor_lt_two_pow (by omega) (by decide)
  · omega

theorem crcFrom_lt (bs : List Byte) {c : Nat} (h : c < 2 ^ 16) : crcFrom bs c < 2 ^ 16 := by
  rw [crcFrom_eq_foldl]
  refine foldl_keeps (· < 2 ^ 16) _ bs c h fun c b _ hc => ?_
  have hin : c ^^^ (256 * b.toNat) < 2 ^ 16 := Nat.xor_lt_two_pow hc (by have := b.isLt; omega)
  exact Function.Iterate.rec (· < 2 ^ 16) hin (fun _ => crcBit_lt) 8

theorem toNat_crc16 (bs : List Byte) :
    (crc16 bs).toNat = bs.foldl (fun c b => crcBit^[8] (c ^^^ (256 * b.toNat))) 0xFFFF := by
  rw [crc16, BitVec.toNat_ofNat, Nat.mod_eq_of_lt (crcFrom_lt bs (by decide)), crcFrom_eq_foldl]

/-! ## Frames written over and their CRC regenerated -/

/-- A frame with some bytes before its last two written over and the CRC regenerated: its length and check, the bytes written and the
bytes that stay. -/
structure Rewritten (f : Frame) (i : Nat) (bs : List Byte) (g : Frame) : Prop where
  length : g.length = f.length
  crc : crcGood g = true
  written : ∀ j < bs.length, byteAt g (i + j) = byteAt bs j
  kept : ∀ j < f.length - 2, j < i ∨ i + bs.length ≤ j → byteAt g j = byteAt f j

theorem rewritten_withCrc_patch (f : Frame) (i : Nat) (bs : List Byte) (h : i + bs.length + 2 ≤ f.length) :
    Rewritten f i bs (withCrc (patch f i bs)) := by
  have hfits : i + bs.length ≤ f.length := by omega
  have hlen : (patch f i bs).length = f.length := length_patch f i bs hfits
  refine ⟨by rw [length_withCrc _ (by omega), hlen], crcGood_withCrc _ (by omega), fun j hj => ?_, fun j hj hout => ?_⟩
  · rw [byteAt_withCrc _ _ (by omega), byteAt_patch_inside f i bs j hfits hj]
  · rw [byteAt_withCrc _ _ (by omega), byteAt_patch_outside f i bs j hfits hout]

/-- Byte `j` of some bytes filled up with zeros (R157). -/
theorem byteAt_padTo {n : Nat} (bs : List Byte) {j : Nat} (h : j < n) : byteAt (padTo n bs) j = bs.getD j 0 := by
  rw [padTo_eq_map, byteAt, List.getD_eq_getElem?_getD, List.getElem?_map, List.getElem?_range h, Option.map_some,
    Option.getD_some]

/-- A reply: the status in byte 5, the data from byte 8 on (R157, R161). -/
theorem replyFrame_bytes {f : Frame} (status : Status) (data : List Byte) (h : f.length = 58) :
    let g := replyFrame f status data
    g.length = 58 ∧ crcGood g = true ∧ byteAt g 5 = status.code ∧ (∀ i < 8, i ≠ 5 → byteAt g i = byteAt f i) ∧
      ∀ j < 48, byteAt g (8 + j) = data.getD j 0 := by
  have hlen : (patch f 5 [status.code]).length = 58 := (length_patch f 5 _ (by simp [h])).trans h
  have hg : Rewritten (patch f 5 [status.code]) 8 (padTo 48 data) (replyFrame f status data) :=
    rewritten_withCrc_patch _ 8 _ (by rw [length_padTo, hlen])
  refine ⟨hg.length.trans hlen, hg.crc, ?_, fun i hi hne => ?_, fun j hj => ?_⟩
  · rw [hg.kept 5 (by omega) (.inl (by decide))]
    exact byteAt_patch_inside f 5 [status.code] 0 (by simp [h]) Nat.one_pos
  · rw [hg.kept i (by omega) (.inl hi)]
    exact byteAt_patch_outside f 5 [status.code] i (by simp [h]) (by simp only [List.length_singleton]; omega)
  · rw [hg.written j (by rw [length_padTo]; exact hj), byteAt_padTo data hj]

/-- A count byte grown by 1 and held at 255 (R162). -/
theorem countFrame_bytes {f : Frame} {i : Nat} (h : f.length = 58) (hi : i < 56) :
    let g := countFrame f i
    g.length = 58 ∧ crcGood g = true ∧ natAt g i = min (natAt f i + 1) 255 ∧ ∀ j < 56, j ≠ i → byteAt g j = byteAt f j := by
  have hg : Rewritten f i [byteOf (min (natAt f i + 1) 255)] (countFrame f i) :=
    rewritten_withCrc_patch f i _ (by rw [List.length_singleton]; omega)
  refine ⟨hg.length.trans h, hg.crc, ?_, fun j hj hne => hg.kept j (by omega) (by rw [List.length_singleton]; omega)⟩
  have hbyte : byteAt (countFrame f i) i = byteOf (min (natAt f i + 1) 255) := hg.written 0 Nat.one_pos
  rw [natAt, hbyte, toNat_byteOf (by omega)]

end Sys2Proof.Machine

namespace Sys2Proof.Proofs

open Sys2Proof.Machine Sys2Proof.Safety

/-- Settles O8: the status codes, the CRC as a fold of its bit step, and the two rewritten frames. -/
theorem replyAndCountFrames : Obligations.ReplyAndCountFrames := by
  refine ⟨rfl, fun f => ⟨toNat_crc16 _, ?_, rfl⟩, fun f status data h => replyFrame_bytes status data h, fun f i h hi =>
    countFrame_bytes h (by omega)⟩
  rw [crcGood, decide_eq_true_iff]
  rfl

end Sys2Proof.Proofs
end

section
/-! PROOFS. The status slot: where it is written, and the payload that shows the part's state (R149, R152, R156, R176). -/

namespace Sys2Proof.Machine

open Sys2Proof.Safety

/-! ## The slot -/

theorem writeStatus_of_unmapped {f : Frame} {s : State} (h : s.slotOf .status = none) : writeStatus ⟨s, f⟩ = ⟨s, f⟩ := by
  rw [writeStatus, h]

theorem writeStatus_of_absent {f : Frame} {s : State} {i : Nat} (h : s.slotOf .status = some i) (hi : slotCount f ≤ i) :
    writeStatus ⟨s, f⟩ = ⟨{ s with ring := s.ring.addAbsent }, f⟩ := by
  rw [writeStatus, h]
  exact if_neg (Nat.not_lt.2 hi)

theorem writeStatus_of_present {f : Frame} {s : State} {i : Nat} (h : s.slotOf .status = some i) (hi : i < slotCount f) :
    writeStatus ⟨s, f⟩ = ⟨s, putSlot f i (makeSlot tagStatus s.nodeAddr s.statusPayload)⟩ := by
  rw [writeStatus, h]
  exact if_pos hi

theorem length_statusPayload (s : State) : s.statusPayload.length = 12 := rfl

/-- The payload's twelve bytes stand behind tag and writer, and two zero bytes fill the slot (R153, R156). -/
theorem statusSlot_eq (s : State) :
    makeSlot tagStatus s.nodeAddr s.statusPayload = [0x30, s.nodeAddr.zeroExtend 8] ++ s.statusPayload ++ [0, 0] := rfl

/-! ## The payload -/

theorem Role.code_eq (r : Role) : r.code = match r with | .bypass => 0 | .monitor => 1 | .active => 2 := by cases r <;> rfl

theorem LaneState.code_lt (x : LaneState) : x.code < 4 := by cases x <;> decide

/-- The lane states as base-4 digits, lane 0's the lowest (R156). -/
def State.laneCodes (s : State) : List Nat := (List.finRange 6).map (fun l => (s.lane l).state.code)

theorem laneStateWord_eq_ofDigits (s : State) : s.laneStateWord = Nat.ofDigits 4 s.laneCodes := by
  rw [Nat.ofDigits_eq_sum_mapIdx]
  rfl

theorem laneCodes_lt (s : State) : ∀ d ∈ s.laneCodes, d < 4 := by
  intro d hd
  obtain ⟨l, -, rfl⟩ := List.mem_map.1 hd
  exact (s.lane l).state.code_lt

theorem laneStateWord_lt (s : State) : s.laneStateWord < 65536 := by
  rw [laneStateWord_eq_ofDigits]
  exact (Nat.ofDigits_lt_base_pow_length (by decide) (laneCodes_lt s)).trans (by simp [State.laneCodes])

theorem laneStateWord_digit (s : State) (l : Lane) : s.laneStateWord / 4 ^ l.val % 4 = (s.lane l).state.code := by
  have hhead : (s.laneCodes.drop l).head! = (s.lane l).state.code := by
    rw [List.drop_eq_getElem_cons (by simp [State.laneCodes])]
    simp [State.laneCodes]
  rw [laneStateWord_eq_ofDigits, Nat.ofDigits_div_pow_eq_ofDigits_drop l (by decide) _ (laneCodes_lt s), Nat.ofDigits_mod_eq_head!, hhead]
  exact Nat.mod_eq_of_lt (s.lane l).state.code_lt

/-- The two bytes of the payload that hold the lane states (R156). -/
theorem statusPayload_laneStates (s : State) : 256 * natAt s.statusPayload 3 + natAt s.statusPayload 4 = s.laneStateWord := by
  rw [← toNat_word16]
  exact nat16At_nat16 _ (laneStateWord_lt s)

/-- An alarm shows while its latch is set and its summary-enable on (R176). -/
theorem Alarm.shows_iff (a : Alarm) : a.shows = true ↔ a.latch.isSome = true ∧ a.summaryEn = true := Bool.and_eq_true_iff

theorem State.laneSummary_iff (s : State) (l : Lane) : s.laneSummary l = true ↔
    ∃ i : Fin 7, (s.lane l).alarms[i].latch.isSome = true ∧ (s.lane l).alarms[i].summaryEn = true := by
  simp only [State.laneSummary, any_toList_iff, Alarm.shows_iff]

theorem State.chipSummary_iff (s : State) : s.chipSummary = true ↔
    ∃ i : Fin 6, s.chipAlarms[i].latch.isSome = true ∧ s.chipAlarms[i].summaryEn = true := by
  simp only [State.chipSummary, any_toList_iff, Alarm.shows_iff]

/-- The bit of a lane in the payload's byte of lane summaries (R156). -/
theorem statusPayload_laneSummary (s : State) (l : Lane) : (byteAt s.statusPayload 5).getLsbD l = s.laneSummary l := by
  refine (Proofs.getLsbD_flags (by decide) _ l).trans ?_
  simp [List.getD_eq_getElem?_getD]

/-- A flag of the payload's byte of flags (R156). -/
theorem statusPayload_flag (s : State) (i : Fin 3) : (byteAt s.statusPayload 7).getLsbD i =
    [s.pendingSwitch.isSome, (List.finRange 6).any (fun l => (s.lane l).changeover.isSome), s.timer.stall].getD i false :=
  Proofs.getLsbD_flags (by decide) _ i

theorem any_changeover_eq (s : State) : (List.finRange 6).any (fun l => (s.lane l).changeover.isSome) =
    decide (∃ l, (s.lane l).changeover.isSome = true) := by
  rw [Bool.eq_iff_iff, decide_eq_true_eq, List.any_eq_true]
  simp only [List.mem_finRange, true_and]

end Sys2Proof.Machine

namespace Sys2Proof.Proofs

open Sys2Proof.Machine Sys2Proof.Safety

/-- Settles O34: the three cases of the slot, and the payload field by field. -/
theorem statusSlotShowsState : Obligations.StatusSlotShowsState := by
  intro f s w p states
  refine ⟨fun h => writeStatus_of_unmapped (s.slotOf_eq_none .status h), fun i hi first => ?_, length_statusPayload s, Role.code_eq s.role,
    Bank.code_eq s.active, rfl, fun l => ?_, fun l => ?_, ?_,
    ⟨statusPayload_flag s 0, (statusPayload_flag s 1).trans (any_changeover_eq s), statusPayload_flag s 2⟩, word16_bytes16 _, word16_bytes16 _⟩
  · have hmapped := s.slotOf_eq_some .status i hi first
    refine ⟨writeStatus_of_absent hmapped, fun hpresent => ?_⟩
    rw [← statusSlot_eq]
    exact writeStatus_of_present hmapped hpresent
  · rw [show states = s.laneStateWord from statusPayload_laneStates s, laneStateWord_digit]
    cases (s.lane l).state <;> rfl
  · rw [statusPayload_laneSummary, Bool.eq_iff_iff, decide_eq_true_eq, State.laneSummary_iff]
  · simp only [← State.chipSummary_iff]
    rfl

end Sys2Proof.Proofs
end

section
/-! PROOFS. MAP_SLOT: the use codes, the pairs of its operand written in order, and its checks (R147, R148, R158). -/

namespace Sys2Proof.Machine

open Sys2Proof.Safety

/-! ## Use codes -/

theorem SlotUse.code_eq (u : SlotUse) : u.code = match u with
    | .unused => 0x00
    | .command k l => BitVec.ofNat 8 (64 + 8 * [Kind.load, .inspect, .card, .sealing, .gate, .stack].idxOf k + l)
    | .report k l => BitVec.ofNat 8 (128 + 8 * [Kind.load, .inspect, .card, .sealing, .gate, .stack].idxOf k + l)
    | .status => 0xC0 := by
  cases u with
  | unused | status => rfl
  | command k l | report k l => simp only [SlotUse.code, Proofs.kindCode_eq_idxOf, byteOf]

theorem useMalformed_iff (b : Byte) : useMalformed b = true ↔ (b.toNat < 64 ∨ 192 ≤ b.toNat) ∧ b.toNat % 64 ≠ 0 := by
  have hb := b.isLt
  simp only [useMalformed, Bool.and_eq_true, Bool.or_eq_true, decide_eq_true_eq]
  omega

theorem kindOf_code (k : Kind) : kindOf k.code = some k := by cases k <;> rfl

theorem kindOf_eq_none {n : Nat} (h : 5 < n) : kindOf n = none := by
  obtain ⟨m, rfl⟩ := Nat.exists_eq_add_of_lt h
  rw [show 5 + m + 1 = m + 6 by omega]
  rfl

section

variable {b : Byte}

theorem useOf_of_unused (h : b.toNat / 64 = 0) : useOf b = some .unused := by
  rw [useOf, if_pos h]

theorem useOf_of_status (h : b.toNat / 64 = 3) : useOf b = some .status := by
  rw [useOf, if_neg (by omega), if_pos h]

/-- A command or report code of a kind and a lane (R158). -/
theorem useOf_of_kind_lane (h : b.toNat / 64 = 1 ∨ b.toNat / 64 = 2) {k : Kind} {l : Lane} (hk : b.toNat / 8 % 8 = k.code)
    (hl : b.toNat % 8 = l) :
    useOf b = if b.toNat / 64 = 1 then some (.command k l) else if k = .stack then none else some (.report k l) := by
  rw [useOf, if_neg (by omega), if_neg (by omega), hk, hl, kindOf_code, Proofs.laneOf_val]

/-- The codes with the fields of a use that name no use: a lane or a kind above 5, and REPORT with STACK (R148). -/
theorem useOf_of_out_of_range (h : b.toNat / 64 = 1 ∨ b.toNat / 64 = 2)
    (hout : 5 < b.toNat % 8 ∨ 5 < b.toNat / 8 % 8 ∨ b.toNat / 64 = 2 ∧ b.toNat / 8 % 8 = 5) : useOf b = none := by
  rw [useOf, if_neg (by omega), if_neg (by omega)]
  obtain hlane | hkind | ⟨huse, hkind⟩ := hout
  · rw [Proofs.laneOf_eq_none hlane]
    cases kindOf (b.toNat / 8 % 8) <;> rfl
  · rw [kindOf_eq_none hkind]
  · rw [hkind, huse]
    cases laneOf (b.toNat % 8) <;> rfl

end

/-! ## The pairs written -/

/-- What the last of the pairs for entry `i` writes there, if one of them is for it (R148). -/
theorem getElem_foldl_writePair (pairs : List (Nat × Byte)) (m : Vector SlotUse 48) (i : Fin 48)
    (h : ∀ p ∈ pairs, (useOf p.2).isSome = true) :
    (pairs.foldl writePair m)[i] =
      (pairs.reverse.find? (fun p => decide (p.1 = i.val))).elim m[i] (fun p => (useOf p.2).getD .unused) := by
  induction pairs using List.reverseRecOn with
  | nil => rfl
  | append_singleton pairs p ih =>
    obtain ⟨u, hu⟩ := Option.isSome_iff_exists.1 (h p (by simp))
    rw [List.foldl_append, List.foldl_cons, List.foldl_nil, List.reverse_append, List.reverse_singleton, List.singleton_append,
      List.find?_cons, writePair, hu, Fin.getElem_fin, Vector.getElem_setIfInBounds]
    by_cases hp : p.1 = i
    · rw [if_pos hp, decide_eq_true hp]
      simp [hu]
    · rw [if_neg hp, decide_eq_false hp]
      exact ih fun q hq => h q (List.mem_append_left _ hq)

/-- No two entries hold the same use but UNUSED (R147). -/
theorem slotMapDistinct_iff (m : Vector SlotUse 48) :
    slotMapDistinct m = true ↔ ∀ i j : Fin 48, i ≠ j → m[i] = m[j] → m[i] = .unused := by
  have hlt : slotMapDistinct m = true ↔ ∀ i j : Fin 48, i < j → m[i] = m[j] → m[i] = .unused := by
    rw [slotMapDistinct, decide_eq_true_iff, List.Nodup, List.pairwise_filter, List.pairwise_iff_getElem]
    simp only [Vector.length_toList, Vector.getElem_toList, decide_eq_true_eq]
    constructor
    · intro h i j hij he
      by_contra hu
      exact h i j i.isLt j.isLt hij hu (he ▸ hu) he
    · intro h i j hi hj hij hu _ he
      exact hu (h ⟨i, hi⟩ ⟨j, hj⟩ hij he)
  rw [hlt]
  refine ⟨fun h i j hne he => ?_, fun h i j hij => h i j hij.ne⟩
  rcases lt_or_gt_of_ne hne with hij | hij
  · exact h i j hij he
  · rw [he]
    exact h j i hij he.symm

/-! ## The checks -/

section

variable {d : List Byte}

/-- Some pair of the operand has a property of its slot number and its code (R158). -/
theorem any_slotPairs_iff (p : Nat × Byte → Bool) :
    (slotPairs d).any p = true ↔ ∃ j < natAt d 0, p (natAt d (1 + 2 * j), byteAt d (2 + 2 * j)) = true := by
  simp only [slotPairs, List.any_map, List.any_eq_true, List.mem_range, Function.comp_apply]

/-- The operand is malformed: no pair or more than sixteen, a byte behind the pairs, or bits that a use does not have (R148). -/
def MapMalformed (d : List Byte) : Prop :=
  natAt d 0 = 0 ∨ 16 < natAt d 0 ∨ restZero d (1 + 2 * natAt d 0) = false ∨
    ∃ j < natAt d 0, ((byteAt d (2 + 2 * j)).toNat < 64 ∨ 192 ≤ (byteAt d (2 + 2 * j)).toNat) ∧ (byteAt d (2 + 2 * j)).toNat % 64 ≠ 0

/-- A pair of the operand names no entry or no use (R148). -/
def MapOutside (d : List Byte) : Prop := ∃ j < natAt d 0, 47 < natAt d (1 + 2 * j) ∨ useOf (byteAt d (2 + 2 * j)) = none

theorem mapMalformed_iff : MapMalformed d ↔ (natAt d 0 = 0 || 16 < natAt d 0 || !restZero d (1 + 2 * natAt d 0) ||
    (slotPairs d).any (fun p => useMalformed p.2)) = true := by
  simp only [MapMalformed, Bool.or_eq_true, decide_eq_true_eq, Bool.not_eq_true', any_slotPairs_iff, useMalformed_iff, or_assoc]

theorem mapOutside_iff : MapOutside d ↔
    (slotPairs d).any (fun p => decide (47 < p.1) || (useOf p.2).isNone) = true := by
  simp only [MapOutside, any_slotPairs_iff, Bool.or_eq_true, decide_eq_true_eq, Option.isNone_iff_eq_none]

/-- The map once the pairs of the operand are written (R148). -/
def mapWritten (d : List Byte) (s : State) : Vector SlotUse 48 := (slotPairs d).foldl writePair s.slotMap

/-- Entry `i` then holds the use of the last pair for it, and its own where no pair is for it (R148). -/
theorem getElem_mapWritten (s : State) (h : ¬ MapOutside d) (i : Fin 48) : (mapWritten d s)[i] =
    ((List.range (natAt d 0)).reverse.find? (fun j => natAt d (1 + 2 * j) = i)).elim s.slotMap[i]
      (fun j => (useOf (byteAt d (2 + 2 * j))).getD .unused) := by
  have hnamed : ∀ p ∈ slotPairs d, (useOf p.2).isSome = true := by
    intro p hp
    obtain ⟨j, hj, rfl⟩ := List.mem_map.1 hp
    exact Option.isSome_iff_ne_none.2 fun hn => h ⟨j, List.mem_range.1 hj, .inr hn⟩
  rw [mapWritten, getElem_foldl_writePair _ _ i hnamed, slotPairs, ← List.map_reverse, List.find?_map, Option.elim_map]
  rfl

/-! ## MAP_SLOT -/

variable {s : State}

theorem decideMapSlot_of_malformed (h : MapMalformed d) : decideMapSlot d s = refuseFormat s := if_pos (mapMalformed_iff.1 h)

theorem decideMapSlot_of_running (h : ¬ MapMalformed d) (hi : s.allIdle = false) :
    decideMapSlot d s = refuse .refusedState s.slotMapBytes s := by
  rw [decideMapSlot, if_neg (mt mapMalformed_iff.2 h), if_pos (by simp [hi])]

theorem decideMapSlot_of_outside (h : ¬ MapMalformed d) (hi : s.allIdle = true) (ho : MapOutside d) :
    decideMapSlot d s = refuse .refusedRange s.slotMapBytes s := by
  rw [decideMapSlot, if_neg (mt mapMalformed_iff.2 h), if_neg (by simp [hi]), if_pos (mapOutside_iff.1 ho)]

/-- A well-formed operand within its ranges is taken if the map it makes has no use twice (R147, R148). -/
theorem decideMapSlot_of_inside (h : ¬ MapMalformed d) (hi : s.allIdle = true) (ho : ¬ MapOutside d) :
    decideMapSlot d s = if slotMapDistinct (mapWritten d s) = true then
        ⟨.done, State.slotMapBytes { s with slotMap := mapWritten d s }, { s with slotMap := mapWritten d s }⟩
      else refuse .refusedDuplicate s.slotMapBytes s := by
  rw [decideMapSlot, if_neg (mt mapMalformed_iff.2 h), if_neg (by simp [hi]), if_neg (mt mapOutside_iff.2 ho)]
  rfl

end

end Sys2Proof.Machine

namespace Sys2Proof.Proofs

open Sys2Proof.Machine Sys2Proof.Safety

/-- Settles O40: the use codes, and MAP_SLOT by its checks in their order. -/
theorem mapSlotWritesPairs : Obligations.MapSlotWritesPairs := by
  refine ⟨fun b => ?_, allIdle_iff, SlotUse.code_eq, fun f rest s h => ?_⟩
  · refine ⟨useOf_of_unused, useOf_of_status, useOf_of_out_of_range, fun l k hl hk => ?_⟩
    have hcode : b.toNat / 8 % 8 = k.code := hk.trans (kindCode_eq_idxOf k).symm
    refine ⟨fun hu => ?_, fun hu hstack => ?_⟩
    · rw [useOf_of_kind_lane (.inl hu) hcode hl, if_pos hu]
    · rw [useOf_of_kind_lane (.inr hu) hcode hl, if_neg (by omega), if_neg hstack]
  · intro d n slot code reply malformed outside result distinct
    have hresult : ¬ outside → ∀ i, (mapWritten d s)[i] = result i := getElem_mapWritten s
    have hdistinct : ¬ outside → (slotMapDistinct (mapWritten d s) = true ↔ distinct) := fun ho => by
      rw [slotMapDistinct_iff]
      simp only [hresult ho]
      rfl
    refine ⟨fun hm => ?_, fun hm hi => ?_, fun hm hi ho => ?_, fun hm hi ho hd => ?_, fun hm hi ho hd =>
      ⟨{ s with slotMap := mapWritten d s }, ?_, rfl, hresult ho⟩⟩
    · exact serve_decided h (decideMapSlot_of_malformed hm) rfl
    · exact serve_decided h (decideMapSlot_of_running hm hi) rfl
    · exact serve_decided h (decideMapSlot_of_outside hm hi ho) rfl
    · exact serve_decided h ((decideMapSlot_of_inside hm hi ho).trans (if_neg (mt (hdistinct ho).1 hd))) rfl
    · exact serve_decided h ((decideMapSlot_of_inside hm hi ho).trans (if_pos ((hdistinct ho).2 hd))) rfl

end Sys2Proof.Proofs
end

section
/-! PROOFS. The request a service frame carries, unknown requests, and RESTART (R157, R167, R170, R171). -/

namespace Sys2Proof.Machine

open Sys2Proof.Safety

/-! ## The request of a frame -/

/-- A lane command's code is its place in the table of R167; what is beyond the table is unknown (assumption 7). -/
theorem laneRequest_eq (code : Byte) : laneRequest code = ([Request.unknown, .laneRun, .laneDrain, .lanePurge, .laneClear, .laneChangeover,
    .forceOn, .forceOff, .autoPurgeOn, .autoPurgeOff][code.toNat]?).getD .unknown := by
  rw [laneRequest]
  match code.toNat with
  | 0 | 1 | 2 | 3 | 4 | 5 | 6 | 7 | 8 | 9 | _ + 10 => rfl

theorem switchRequest_eq (kind : Byte) :
    switchRequest kind = if kind.toNat = 1 then .switchBank else if kind.toNat = 2 then .switchBankCancel else .unknown := by
  rw [switchRequest]
  match kind.toNat with
  | 0 | 1 | 2 | _ + 3 => rfl

section

variable {f : Frame}

theorem requestOf_of_switch (h : natAt f 3 = 0x16) : requestOf f = switchRequest (byteAt f 8) := by
  rw [requestOf, h]
  rfl

theorem requestOf_of_lane (h : natAt f 3 = 0x20) : requestOf f = laneRequest (byteAt f 9) := by
  rw [requestOf, h]
  rfl

/-- The codes that name one request each (R157, R167). -/
theorem requestOf_of_code : ∀ p ∈ [(0x01, Request.identify), (0x02, .readState), (0x10, .mapSlot), (0x11, .readSlotMap),
    (0x12, .setStations), (0x13, .readStations), (0x14, .loadRecipe), (0x15, .readRecipe), (0x21, .readCard), (0x22, .readCounters),
    (0x23, .clearCounters), (0x30, .readAlarms), (0x31, .setAlarmMasks), (0x40, .setZone), (0x41, .readZones), (0x50, .setRole),
    (0x5F, .restart)], natAt f 3 = p.1 → requestOf f = p.2 := by
  intro p hp hcode
  rw [requestOf, hcode]
  fin_cases hp <;> rfl

theorem requestOf_of_no_code (h : natAt f 3 ∉ [0x01, 0x02, 0x10, 0x11, 0x12, 0x13, 0x14, 0x15, 0x16, 0x20, 0x21, 0x22, 0x23, 0x30, 0x31,
    0x40, 0x41, 0x50, 0x5F]) : requestOf f = .unknown := by
  unfold requestOf
  split <;> simp_all

end

/-- Nothing but zeros stands from byte `n` on (R157). -/
theorem restZero_iff (d : List Byte) (n : Nat) : restZero d n = true ↔ ∀ j, n ≤ j → byteAt d j = 0 := by
  simp only [restZero, List.all_eq_true, decide_eq_true_eq]
  constructor
  · intro h j hj
    by_cases hlen : j < d.length
    · rw [byteAt, List.getD_eq_getElem _ _ hlen]
      exact h _ (List.mem_drop_iff_getElem.2 ⟨j - n, by omega, by simp only [Nat.add_sub_cancel' hj]⟩)
    · exact List.getD_eq_default _ _ (by omega)
  · intro h x hx
    obtain ⟨j, hj, rfl⟩ := List.mem_drop_iff_getElem.1 hx
    exact (List.getD_eq_getElem d 0 (by omega)).symm.trans (h (n + j) (by omega))

/-! ## RESTART -/

theorem decideRestart_of_malformed {d : List Byte} {s : State} (h : restZero d 0 = false) : decideRestart d s = refuseFormat s :=
  if_neg (by simp [h])

theorem decideRestart_of_wellFormed {d : List Byte} (s : State) (h : restZero d 0 = true) : decideRestart d s = ⟨.done, [], s.restart⟩ :=
  if_pos h

theorem State.lane_restart (s : State) (l : Lane) : s.restart.lane l = (s.lane l).restart := by simp [State.restart, State.lane]

theorem State.entry_restart (s : State) (b : Bank) (n : EntryNo) : s.restart.entry b n = (s.entry b n).restart := by
  cases b <;> simp [State.restart, State.entry]

/-- Every latch is clear and every mask kept (R170, R171, R178). -/
theorem State.laneAlarm_restart (s : State) (l : Lane) (i : Fin 7) :
    (s.restart.lane l).alarms[i] = { (s.lane l).alarms[i] with latch := none } := by
  rw [State.lane_restart]
  simp [LaneRec.restart]

theorem State.chipAlarm_restart (s : State) (i : Fin 6) : s.restart.chipAlarms[i] = { s.chipAlarms[i] with latch := none } := by
  simp [State.restart]

/-- With every latch clear the stop request is gone (R177). -/
theorem State.stopPresent_restart (s : State) : s.restart.stopPresent = false := by
  rw [← Bool.not_eq_true, State.stopPresent_iff]
  rintro (⟨l, i, h⟩ | ⟨i, h⟩)
  · rw [State.laneAlarm_restart] at h
    cases h
  · rw [State.chipAlarm_restart] at h
    cases h

/-- Of a lane record the counters and the alarms' masks outlive RESTART (R170, R171). -/
theorem LaneRec.restart_frame (r : LaneRec) :
    { r.restart with alarms := laneAlarmsReset, counters := Vector.replicate 21 0 } = LaneRec.reset := rfl

/-- What RESTART keeps: the tables' contents, the role, the zones, the serial counter, the Ring Port counters and the frames (R171). -/
theorem State.restart_frame (s : State) : { s.restart with
    free := s.free
    gate := s.gate
    pendingSwitch := s.pendingSwitch
    lastIndex := s.lastIndex
    cardViews := s.cardViews
    timer := s.timer
    stopReason := s.stopReason
    bankA := s.bankA
    bankB := s.bankB
    chipAlarms := s.chipAlarms
    lanes := s.lanes } = s := rfl

end Sys2Proof.Machine

namespace Sys2Proof.Proofs

open Sys2Proof.Machine Sys2Proof.Safety

/-- Settles O52: the request codes, the zeros behind an operand, and RESTART field by field. -/
theorem restartAndUnknownRequest : Obligations.RestartAndUnknownRequest := by
  refine ⟨fun f => ?_, restZero_iff, fun f rest s => ⟨fun h => ?_, fun h hz => ?_, fun h hz => ?_⟩⟩
  · exact ⟨requestOf_of_code, fun h => (requestOf_of_switch h).trans (switchRequest_eq _),
      fun h => (requestOf_of_lane h).trans (laneRequest_eq _), requestOf_of_no_code⟩
  · exact serve_decided (a := refuseFormat s) h rfl rfl
  · exact serve_decided h (decideRestart_of_malformed hz) rfl
  · refine ⟨s.restart, serve_decided h (decideRestart_of_wellFormed s hz) rfl, s.free_restart, rfl, rfl, rfl, rfl, rfl,
      s.stopPresent_restart, rfl, s.entry_restart, s.chipAlarm_restart, fun l => ⟨?_, ?_, s.laneAlarm_restart l⟩, s.restart_frame⟩
    · rw [State.lane_restart]
      exact LaneRec.restart_frame _
    · rw [State.lane_restart]
      rfl

end Sys2Proof.Proofs
end

section
/-! PROOFS. The requests that read the identity, the state and the production counters, and change nothing (R164 to R166, R168). -/

namespace Sys2Proof.Machine

open Sys2Proof.Safety

/-! ## IDENTIFY -/

theorem decideIdentify_of_malformed {d : List Byte} {s : State} (h : restZero d 0 = false) : decideIdentify d s = refuseFormat s :=
  if_neg (by simp [h])

theorem decideIdentify_of_wellFormed {d : List Byte} (s : State) (h : restZero d 0 = true) : decideIdentify d s =
    ⟨.done, [0x5E, 0x2A, 0x36, 0x16, 0x01, s.nodeAddr.zeroExtend 8, s.role.code, pendingRoleCode s.pendingRole], s⟩ :=
  if_pos h

/-! ## READ_STATE -/

theorem decideReadState_of_malformed {d : List Byte} {s : State} (h : restZero d 1 = false) : decideReadState d s = refuseFormat s :=
  if_pos (by simp [h])

theorem decideReadState_of_no_page {d : List Byte} {s : State} (hz : restZero d 1 = true) (h : 1 < natAt d 0) :
    decideReadState d s = refuse .refusedRange [] s := by
  rw [decideReadState, if_neg (by simp [hz])]
  split
  · omega
  · omega
  · rfl

theorem decideReadState_of_page0 {d : List Byte} (s : State) (hz : restZero d 1 = true) (h : natAt d 0 = 0) :
    decideReadState d s = ⟨.done, s.page0, s⟩ := by
  rw [decideReadState, if_neg (by simp [hz]), h]
  rfl

theorem decideReadState_of_page1 {d : List Byte} (s : State) (hz : restZero d 1 = true) (h : natAt d 0 = 1) :
    decideReadState d s = ⟨.done, s.page1, s⟩ := by
  rw [decideReadState, if_neg (by simp [hz]), h]
  rfl

theorem State.length_laneSummaryBytes (s : State) (replaced : Bool) (l : Lane) : (s.laneSummaryBytes replaced l).length = 8 := rfl

theorem State.length_page0 (s : State) : s.page0.length = 48 := rfl

/-- Page 0 holds lane `l`'s summary from byte 8 * l on (R165). -/
theorem page0_block (s : State) (l : Lane) : (s.page0.drop (8 * l.val)).take 8 = s.laneSummaryBytes false l := by
  have h := take_drop_flatMap (s.length_laneSummaryBytes false) (List.finRange 6) l.val (by simp)
  rwa [List.getElem_finRange] at h

/-! ## READ_COUNTERS -/

theorem decideReadCounters_of_malformed {d : List Byte} {s : State} (h : restZero d 2 = false) : decideReadCounters d s = refuseFormat s :=
  if_pos (by simp [h])

theorem decideReadCounters_of_lane {d : List Byte} {l : Lane} (s : State) (hz : restZero d 2 = true) (hl : natAt d 0 = l) :
    decideReadCounters d s =
      if 1 < natAt d 1 then refuse .refusedRange [] s else ⟨.done, (s.lane l).counterPage (natAt d 1), s⟩ := by
  rw [decideReadCounters, if_neg (by simp [hz]), hl, Proofs.laneOf_val]

theorem decideReadCounters_of_no_page {d : List Byte} {s : State} (hz : restZero d 2 = true) (h : 5 < natAt d 0 ∨ 1 < natAt d 1) :
    decideReadCounters d s = refuse .refusedRange [] s := by
  by_cases hl : 5 < natAt d 0
  · rw [decideReadCounters, if_neg (by simp [hz]), Proofs.laneOf_eq_none hl]
  · rw [decideReadCounters_of_lane (l := ⟨natAt d 0, by omega⟩) s hz rfl, if_pos (h.resolve_left hl)]

/-- A 32-bit field of a reply made of 4-byte parts is that of its part. -/
theorem word32_flatMap {α : Type} {f : α → List Byte} (hf : ∀ x, (f x).length = 4) (xs : List α) (i : Nat) (hi : i < xs.length) :
    word32 (xs.flatMap f) (4 * i) = word32 (f xs[i]) 0 := by
  refine Proofs.word32_congr fun n hn => ?_
  rw [← take_drop_flatMap hf xs i hi]
  simp [byteAt, List.getD_eq_getElem?_getD, List.getElem?_take_of_lt hn]

theorem length_counterPage (r : LaneRec) (page : Nat) : (r.counterPage page).length = 48 := rfl

/-- Field `j` of a page is counter 12 * page + j, 0 where there is none (R168). -/
theorem word32_counterPage (r : LaneRec) (page : Nat) (j : Fin 12) :
    word32 (r.counterPage page) (4 * j.val) = r.counters.toList.getD (12 * page + j.val) 0 := by
  rw [LaneRec.counterPage, word32_flatMap (fun _ => rfl) _ _ (by simp), word32_bytes32, List.getElem_range]

theorem counters_getD (r : LaneRec) {i : Nat} (hi : i < 21) : r.counters.toList.getD i 0 = r.counters[i] := by
  simp [List.getD_eq_getElem?_getD, hi]

/-- Behind the nine counters of page 1 stand zeros (R168). -/
theorem counterPage_one (r : LaneRec) : r.counterPage 1 =
    (List.range 9).flatMap (fun j => bytes32 (r.counters.toList.getD (12 + j) 0)) ++ List.replicate 12 0 := by
  have hbeyond : ∀ i, 21 ≤ i → r.counters.toList.getD i 0 = 0 := fun i hi => List.getD_eq_default _ _ (by simpa using hi)
  have hsplit : List.range 12 = List.range 9 ++ [9, 10, 11] := rfl
  rw [LaneRec.counterPage, hsplit, List.flatMap_append]
  simp only [List.flatMap_cons, List.flatMap_nil, hbeyond (12 * 1 + 9) (by decide), hbeyond (12 * 1 + 10) (by decide),
    hbeyond (12 * 1 + 11) (by decide)]
  rfl

theorem byteAt_replicate_zero (n i : Nat) : byteAt (List.replicate n 0) i = 0 := by
  rw [byteAt, List.getD_eq_getElem?_getD, List.getElem?_replicate]
  split <;> rfl

theorem byteAt_counterPage_one (r : LaneRec) {j : Nat} (hj : 36 ≤ j) : byteAt (r.counterPage 1) j = 0 := by
  rw [counterPage_one, byteAt_append_of_length (n := 36) (i := j - 36) rfl (by omega), byteAt_replicate_zero]

end Sys2Proof.Machine

namespace Sys2Proof.Proofs

open Sys2Proof.Machine Sys2Proof.Safety

/-- Settles O35: IDENTIFY and READ_STATE by their operands, page 0 of the state lane by lane. -/
theorem identifyAndReadState : Obligations.IdentifyAndReadState := by
  intro f rest s d role pendingRole
  have hrole : role = Role.code := funext fun r => (Role.code_eq r).symm
  have hpending : pendingRole = pendingRoleCode s.pendingRole := by rw [pendingRoleCode, ← hrole]
  rw [hpending, hrole]
  refine ⟨fun h => ⟨fun hz => ?_, fun hz => ?_⟩,
    fun h => ⟨fun hz => ?_, fun hz hno => ?_, fun hz hp => ⟨s.page0, ?_, s.length_page0, fun l => ?_⟩, fun hz hp => ?_⟩⟩
  · exact serve_decided h (decideIdentify_of_wellFormed s hz) rfl
  · exact serve_decided h (decideIdentify_of_malformed hz) rfl
  · exact serve_decided h (decideReadState_of_malformed hz) rfl
  · exact serve_decided h (decideReadState_of_no_page hz hno) rfl
  · exact serve_decided h (decideReadState_of_page0 s hz hp) rfl
  · rw [page0_block]
    refine ⟨byteOf_stateCode _, rfl, rfl, word16_bytes16 _, ?_, ?_, ?_, fun hg => ?_, rfl, rfl⟩
    · exact getLsbD_summaryFlags _ _ 0 le_rfl (by decide)
    · exact getLsbD_summaryFlags _ _ 1 le_rfl (by decide)
    · exact getLsbD_summaryFlags _ _ 2 le_rfl (by decide)
    · have hcount : natAt (s.laneSummaryBytes false l) 5 / 8 = 2 * (s.gateOf l).length := toNat_summaryFlags _ _ rfl hg
      omega
  · have hserve := serve_decided h (decideReadState_of_page1 s hz hp) rfl
    rw [State.page1, State.switchReply, Bank.code_eq] at hserve
    exact hserve

/-- Settles O38: a page is twelve fields of four bytes, and page 1 ends behind counter 20. -/
theorem readCountersReturnsPage : Obligations.ReadCountersReturnsPage := by
  intro f rest s h d
  refine ⟨fun hz hno => ?_, fun hz => ?_, fun l hz hl hpage => ⟨(s.lane l).counterPage (natAt d 1), ?_, length_counterPage _ _,
    fun h0 j => ?_, fun h1 => ⟨fun j => ?_, fun j hj => ?_⟩⟩⟩
  · exact serve_decided h (decideReadCounters_of_no_page hz hno) rfl
  · exact serve_decided h (decideReadCounters_of_malformed hz) rfl
  · exact serve_decided h ((decideReadCounters_of_lane s hz hl).trans (if_neg (by omega))) rfl
  · rw [h0, word32_counterPage, Nat.mul_zero, Nat.zero_add, counters_getD]
  · rw [h1]
    exact (word32_counterPage _ 1 ⟨j, by omega⟩).trans (counters_getD _ _)
  · rw [h1, byteAt_counterPage_one _ hj]

end Sys2Proof.Proofs
end

section
/-! PROOFS. Broadcast: the frames in the buffer have no part in what a request that is no read request does, so that it does at broadcast what
it does under the node address (R160 to R162). -/

namespace Sys2Proof.Proofs

open Sys2Proof.Machine Sys2Proof.Safety

/-! ## Decisions and the Frame Buffer -/

/-- The state with other frames in the Frame Buffer. -/
def withBuffer (b : List Frame) (s : State) : State := { s with buffer := b }

/-- The answer with other frames in the Frame Buffer. -/
def answerWithBuffer (b : List Frame) (a : Answer) : Answer := { a with state := withBuffer b a.state }

/-- A rule of the Service Unit that neither looks at the frames in the buffer nor changes them. -/
def BufferFree (rule : State → Answer) : Prop := ∀ b s, rule (withBuffer b s) = answerWithBuffer b (rule s)

theorem lane_withBuffer (b : List Frame) (s : State) (l : Lane) : (withBuffer b s).lane l = s.lane l := rfl

theorem activeEntry_withBuffer (b : List Frame) (s : State) (n : Nat) : (withBuffer b s).activeEntry n = s.activeEntry n := rfl

theorem BufferFree.keeps_buffer {rule : State → Answer} (h : BufferFree rule) (s : State) : (rule s).state.buffer = s.buffer := by
  have hkept : rule s = answerWithBuffer s.buffer (rule s) := h s.buffer s
  rw [hkept]
  rfl

/-! ## The nine lane commands -/

theorem bufferFree_laneCommand {rule : State → Lane → Answer} (h : ∀ l, BufferFree (rule · l)) (usesEntry usesIndex : Bool)
    (d : List Byte) : BufferFree (fun s => laneCommand usesEntry usesIndex d s (rule s)) := fun b s => by
  refine ite_apply_eq rfl ?_
  cases laneOf (natAt d 0) with
  | none => rfl
  | some l => exact h l b s

theorem startLane_withBuffer (b : List Frame) (s : State) (l : Lane) (e : EntryNo) :
    (withBuffer b s).startLane l e = withBuffer b (s.startLane l e) := ite_apply_eq rfl rfl

theorem bufferFree_runLane (d : List Byte) (l : Lane) : BufferFree (runLane d · l) := fun b s => by
  simp only [runLane, lane_withBuffer, activeEntry_withBuffer]
  cases (s.lane l).state with
  | idle =>
    cases entryByte d with
    | none => rfl
    | some n =>
      refine ite_apply_eq rfl ?_
      cases s.activeEntry n with
      | none => rfl
      | some e => exact congrArg (takeLane .done false l) (startLane_withBuffer b s l e)
  | drain =>
    cases entryByte d with
    | none => rfl
    | some n =>
      dsimp only
      cases s.activeEntry n <;> rfl
  | run => rfl
  | fault => rfl

theorem bufferFree_drainLane (l : Lane) : BufferFree (drainLane · l) := fun b s => by
  simp only [drainLane, lane_withBuffer]
  cases (s.lane l).state <;> rfl

theorem bufferFree_purgeLane (l : Lane) : BufferFree (purgeLane · l) := fun b s => by
  simp only [purgeLane, lane_withBuffer]
  cases (s.lane l).state <;> rfl

theorem bufferFree_clearLane (l : Lane) : BufferFree (clearLane · l) := fun b s => by
  simp only [clearLane, lane_withBuffer]
  cases (s.lane l).state with
  | fault => exact ite_apply_eq rfl rfl
  | idle => rfl
  | run => rfl
  | drain => rfl

theorem bufferFree_changeoverLane (d : List Byte) (l : Lane) : BufferFree (changeoverLane d · l) := fun b s => by
  simp only [changeoverLane, lane_withBuffer]
  cases entryByte d with
  | none => rfl
  | some n =>
    dsimp only
    cases entryOf n with
    | none => rfl
    | some e => cases (s.lane l).state <;> rfl

theorem bufferFree_laneChangeover (d : List Byte) : BufferFree (decideLaneChangeover d) := fun b s =>
  ite_apply_eq rfl (bufferFree_laneCommand (bufferFree_changeoverLane d) true true d b s)

/-! ## The other requests -/

theorem bufferFree_mapSlot (d : List Byte) : BufferFree (decideMapSlot d) := fun _ _ =>
  ite_apply_eq rfl (ite_apply_eq rfl (ite_apply_eq rfl (ite_apply_eq rfl rfl)))

theorem bufferFree_setStations (d : List Byte) : BufferFree (decideSetStations d) := fun _ _ =>
  ite_apply_eq rfl (ite_apply_eq rfl (ite_apply_eq rfl rfl))

theorem bufferFree_loadRecipe (d : List Byte) : BufferFree (decideLoadRecipe d) := fun b s => by
  refine ite_apply_eq rfl ?_
  cases bankOf (byteAt d 0) with
  | none => rfl
  | some bank =>
    cases entryOf (natAt d 1) with
    | none => rfl
    | some n =>
      refine ite_apply_eq rfl (ite_apply_eq rfl (ite_apply_eq ?_ ?_))
      · cases bank <;> rfl
      · cases (recipeOf d 3).filter Recipe.inRange with
        | none => rfl
        | some r => cases bank <;> rfl

theorem bufferFree_switchBank (d : List Byte) : BufferFree (decideSwitchBank d) := fun _ _ => ite_apply_eq rfl (ite_apply_eq rfl rfl)

theorem bufferFree_switchBankCancel (d : List Byte) : BufferFree (decideSwitchBankCancel d) := fun _ _ =>
  ite_apply_eq rfl (ite_apply_eq rfl rfl)

theorem bufferFree_clearCounters (d : List Byte) : BufferFree (decideClearCounters d) := fun b s => by
  refine ite_apply_eq rfl (ite_apply_eq rfl ?_)
  cases laneOf (natAt d 0) <;> rfl

theorem maskScope_withBuffer (b : List Frame) (s : State) (summary stop : Byte) (scope : Scope) :
    (withBuffer b s).maskScope summary stop scope = withBuffer b (s.maskScope summary stop scope) := by
  cases scope <;> rfl

theorem settleStop_withBuffer (b : List Frame) (s : State) : (withBuffer b s).settleStop = withBuffer b s.settleStop :=
  ite_apply_eq (ite_apply_eq rfl rfl) rfl

theorem bufferFree_setAlarmMasks (d : List Byte) : BufferFree (decideSetAlarmMasks d) := fun b s => by
  refine ite_apply_eq rfl ?_
  cases scopeOf (natAt d 0) with
  | none => rfl
  | some scope =>
    dsimp only
    rw [maskScope_withBuffer, settleStop_withBuffer]
    rfl

theorem bufferFree_setZone (d : List Byte) : BufferFree (decideSetZone d) := fun b s => by
  refine ite_apply_eq rfl ?_
  cases laneOf (natAt d 0) with
  | none => rfl
  | some l => exact ite_apply_eq rfl rfl

theorem bufferFree_setRole (d : List Byte) : BufferFree (decideSetRole d) := fun b s => by
  refine ite_apply_eq rfl ?_
  cases roleOf (byteAt d 0) <;> rfl

theorem restart_withBuffer (b : List Frame) (s : State) : (withBuffer b s).restart = withBuffer b s.restart := by
  simp only [State.restart, withBuffer]

theorem bufferFree_restart (d : List Byte) : BufferFree (decideRestart d) := fun b s =>
  ite_apply_eq (congrArg (Answer.mk .done []) (restart_withBuffer b s)) rfl

/-- A request that is no read request is decided by a rule that leaves the frames in the buffer to the Service Unit. -/
theorem exec_eq_serve_bufferFree {c : Instr} {r : Request} (h : requestFor c = some r) (hr : r.isRead = false) :
    ∃ decide, (∀ s, exec c s = serve r decide s) ∧ ∀ d, BufferFree (decide d) := by
  have hflag : ∀ (f : LaneRec → LaneRec) (d : List Byte), BufferFree (fun s => laneCommand false false d s (flagLane f s)) := fun f d =>
    bufferFree_laneCommand (rule := flagLane f) (fun _ _ _ => rfl) false false d
  cases c with
  | deviceReset | frameArrival | frameDeparture | frameProcessing | cycleFrame | pitchCountSaturation | conversionEnd
  | zoneFaultEntryAfterStep | resetAsserted | supplyRemoved => cases h
  | identify | readState | readSlotMap | readStations | readRecipe | readCard | readCounters | readAlarms | readZones => cases h; cases hr
  | mapSlot => cases h; exact ⟨_, fun _ => rfl, bufferFree_mapSlot⟩
  | setStations => cases h; exact ⟨_, fun _ => rfl, bufferFree_setStations⟩
  | loadRecipe => cases h; exact ⟨_, fun _ => rfl, bufferFree_loadRecipe⟩
  | switchBank => cases h; exact ⟨_, fun _ => rfl, bufferFree_switchBank⟩
  | switchBankCancel => cases h; exact ⟨_, fun _ => rfl, bufferFree_switchBankCancel⟩
  | laneRun => cases h; exact ⟨_, fun _ => rfl, fun d => bufferFree_laneCommand (bufferFree_runLane d) true false d⟩
  | laneDrain => cases h; exact ⟨_, fun _ => rfl, bufferFree_laneCommand bufferFree_drainLane false false⟩
  | lanePurge => cases h; exact ⟨_, fun _ => rfl, bufferFree_laneCommand bufferFree_purgeLane false false⟩
  | laneClear => cases h; exact ⟨_, fun _ => rfl, bufferFree_laneCommand bufferFree_clearLane false false⟩
  | laneChangeover => cases h; exact ⟨_, fun _ => rfl, bufferFree_laneChangeover⟩
  | forceOn => cases h; exact ⟨_, fun _ => rfl, hflag _⟩
  | forceOff => cases h; exact ⟨_, fun _ => rfl, hflag _⟩
  | autoPurgeOn => cases h; exact ⟨_, fun _ => rfl, hflag _⟩
  | autoPurgeOff => cases h; exact ⟨_, fun _ => rfl, hflag _⟩
  | clearCounters => cases h; exact ⟨_, fun _ => rfl, bufferFree_clearCounters⟩
  | setAlarmMasks => cases h; exact ⟨_, fun _ => rfl, bufferFree_setAlarmMasks⟩
  | setZone => cases h; exact ⟨_, fun _ => rfl, bufferFree_setZone⟩
  | setRole => cases h; exact ⟨_, fun _ => rfl, bufferFree_setRole⟩
  | restart => cases h; exact ⟨_, fun _ => rfl, bufferFree_restart⟩
  | unknownRequest => cases h; exact ⟨_, fun _ => rfl, fun _ _ _ => rfl⟩

/-! ## The frame under the node address -/

/-- A service frame with its address replaced (R157). -/
def readdressed (f : Frame) (addr : BitVec 6) : Frame := patch f 1 [addr.zeroExtend 8]

section

variable {f : Frame} (addr : BitVec 6) (hf : f.length = 58)
include hf

theorem length_readdressed : (readdressed f addr).length = 58 := (length_patch f 1 _ (by simp [hf])).trans hf

theorem byteAt_readdressed : byteAt (readdressed f addr) 1 = addr.zeroExtend 8 :=
  byteAt_patch_inside f 1 [addr.zeroExtend 8] 0 (by simp [hf]) Nat.one_pos

theorem byteAt_readdressed_ne {j : Nat} (hj : j ≠ 1) : byteAt (readdressed f addr) j = byteAt f j :=
  byteAt_patch_outside f 1 _ j (by simp [hf]) (by rw [List.length_singleton]; omega)

theorem requestOf_readdressed : requestOf (readdressed f addr) = requestOf f := by
  have hcode : natAt (readdressed f addr) 3 = natAt f 3 := congrArg BitVec.toNat (byteAt_readdressed_ne addr hf (by decide))
  rw [requestOf, requestOf, hcode, byteAt_readdressed_ne addr hf (j := 8) (by decide), byteAt_readdressed_ne addr hf (j := 9) (by decide)]

theorem serviceData_readdressed : serviceData (readdressed f addr) = serviceData f := by
  have hhead : (f.take 1 ++ [addr.zeroExtend 8]).length = 2 := by simp [hf]
  have hdrop : (readdressed f addr).drop 8 = f.drop 8 := by
    rw [readdressed, patch, List.drop_append, hhead, List.drop_of_length_le (by rw [hhead]; decide), List.nil_append, List.drop_drop]
    rfl
  rw [serviceData, hdrop, serviceData]

theorem readdressed_serves {s : State} {rest : List Frame} {r : Request} (h : HandsService s f rest r) (ha : addr.toNat ≠ 63) :
    Serves (withBuffer (readdressed f addr :: rest) s) (readdressed f addr) rest r := by
  obtain ⟨hi, hp, -, hr⟩ := h
  refine ⟨⟨hi, hp, rfl, (requestOf_readdressed addr hf).trans hr⟩, fun h63 => ha ?_⟩
  have hbyte : addr.toNat % 256 = 63 := by simpa using congrArg BitVec.toNat ((byteAt_readdressed addr hf).symm.trans h63)
  omega

end

/-- The status codes of taken requests (R157, R162). -/
theorem taken_iff_code (status : Status) : status.taken = true ↔ status.code = 0x01 ∨ status.code = 0x02 := by cases status <;> decide

/-- Settles O9: a read request is not looked at; any other is decided alike in both frames, and the reply's status picks the count. -/
theorem broadcastExecutesAsAddressed : Obligations.BroadcastExecutesAsAddressed := by
  refine ⟨fun r => by cases r <;> decide, fun c r f rest s hc h hf ha => ⟨fun hread => ?_, fun hread haddr => ?_⟩⟩
  · obtain ⟨decide, hserve⟩ := exec_eq_serve hc
    rw [hserve]
    exact serve_broadcast_read r decide f rest s h ha hread
  · obtain ⟨decide, hserve, hfree⟩ := exec_eq_serve_bufferFree hc hread
    have hdata := serviceData_readdressed s.nodeAddr hf
    have haddressed := serve_decided (readdressed_serves s.nodeAddr hf h haddr)
      ((congrArg (decide · _) hdata).trans (hfree _ _ s)) rfl
    obtain ⟨-, -, hstatus, -, -⟩ := replyFrame_bytes (decide (serviceData f) s).status (decide (serviceData f) s).data
      (length_readdressed s.nodeAddr hf)
    refine ⟨_, _, (hserve _).trans haddressed, rfl, ?_⟩
    rw [hserve, serve_broadcast r decide f rest s h ha hread ((hfree _).keeps_buffer s)]
    simp only [taken_iff_code, ← hstatus]
    rfl

end Sys2Proof.Proofs
end

section
/-! PROOFS. Latching an alarm: what it changes, and whether the stop request is present after it (R172, R173, R177). -/

namespace Sys2Proof.Machine

/-! ## One alarm -/

theorem Alarm.set_of_latched {a : Alarm} (h : a.latch.isSome = true) (d : List Byte) : a.set d = a := by
  unfold Alarm.set
  split
  · next hn => simp [hn] at h
  · rfl

theorem Alarm.set_of_clear {a : Alarm} (h : a.latch = none) (d : List Byte) : a.set d = { a with latch := some (padTo 5 d) } := by
  simp [Alarm.set, h]

@[simp] theorem Alarm.stopEn_set (d : List Byte) (a : Alarm) : (a.set d).stopEn = a.stopEn := by
  unfold Alarm.set
  split <;> rfl

@[simp] theorem Alarm.latched_set (d : List Byte) (a : Alarm) : (a.set d).latched = true := by
  cases h : a.latch with
  | none => rw [Alarm.set_of_clear h]; rfl
  | some x => rw [Alarm.set_of_latched (by simp [h]), Alarm.latched, h]; rfl

/-- Once latched an alarm reaches the stop request exactly where its stop-enable is on (R177). -/
theorem Alarm.stops_set (d : List Byte) (a : Alarm) : (a.set d).stops = a.stopEn := by
  rw [Alarm.stops, Alarm.latched_set, Alarm.stopEn_set, Bool.true_and]

theorem Alarm.stops_iff (a : Alarm) : a.stops = true ↔ a.latch.isSome = true ∧ a.stopEn = true := Bool.and_eq_true_iff

theorem reasonAfterLatch_of_latched {a : Alarm} (h : a.latch.isSome = true) (present : Bool) (code reason : Nat) :
    reasonAfterLatch present a code reason = reason := by
  simp [reasonAfterLatch, Alarm.latched, h]

theorem reasonAfterLatch_of_clear {a : Alarm} (h : a.latch = none) (present : Bool) (code reason : Nat) :
    reasonAfterLatch present a code reason = if present = false ∧ a.stopEn = true then code else reason := by
  simp [reasonAfterLatch, Alarm.latched, h]

/-- Where a reason stands exactly while the stop request is present, so it does after a latch (R177). -/
theorem reasonAfterLatch_ne_zero_iff {present : Bool} {a : Alarm} {code reason : Nat} (hcode : code ≠ 0)
    (hreason : present = true ↔ reason ≠ 0) (ha : a.stops = true → present = true) :
    reasonAfterLatch present a code reason ≠ 0 ↔ present = true ∨ a.stopEn = true := by
  unfold reasonAfterLatch
  split
  · next h =>
    simp only [Bool.and_eq_true] at h
    exact ⟨fun _ => .inr h.2, fun _ => hcode⟩
  · next h =>
    refine ⟨fun hr => .inl (hreason.2 hr), fun hor => hreason.1 (hor.elim id fun hen => ?_)⟩
    cases hp : present with
    | true => rfl
    | false => exact absurd (ha (by simpa [Alarm.stops, hen, hp] using h)) (by simp [hp])

/-! ## The alarms of the lanes and the chip -/

theorem LaneAlarm.code_ne_zero (a : LaneAlarm) : a.code ≠ 0 := Nat.succ_ne_zero _

theorem ChipAlarm.code_ne_zero (a : ChipAlarm) : a.code ≠ 0 := Nat.succ_ne_zero _

/-- One alarm of a vector latched. -/
theorem getElem_set_alarm {n : Nat} (alarms : Vector Alarm n) (i j : Fin n) (d : List Byte) :
    (alarms.set i (alarms[i].set d))[j] = if i = j then alarms[j].set d else alarms[j] := by
  simp only [Fin.getElem_fin, Vector.getElem_set, Fin.val_inj]
  split
  · next h => rw [h]
  · rfl

theorem State.laneAlarm_latchLane (s : State) (l m : Lane) (a : LaneAlarm) (d : List Byte) (j : Fin 7) :
    ((s.latchLane l a d).lane m).alarms[j] =
      if l = m ∧ a.place = j then ((s.lane m).alarms[j]).set d else (s.lane m).alarms[j] := by
  by_cases h : l = m
  · subst h
    rw [State.lane_latchLane_self]
    simp only [true_and]
    exact getElem_set_alarm _ _ j d
  · rw [State.lane_latchLane_ne _ _ _ h, if_neg (fun hm => h hm.1)]

theorem State.chipAlarm_latchChip (s : State) (a : ChipAlarm) (d : List Byte) (j : Fin 6) :
    (s.latchChip a d).chipAlarms[j] = if a.place = j then (s.chipAlarms[j]).set d else s.chipAlarms[j] := getElem_set_alarm _ _ j d

theorem State.stopReason_latchLane (s : State) (l : Lane) (a : LaneAlarm) (d : List Byte) : (s.latchLane l a d).stopReason =
    reasonAfterLatch s.stopPresent (s.lane l).alarms[a.place] a.code s.stopReason := rfl

/-- A lane record replaced by itself. -/
theorem State.updLane_of_eq {s : State} {l : Lane} {f : LaneRec → LaneRec} (h : f (s.lane l) = s.lane l) : s.updLane l f = s := by
  rw [State.updLane, h, State.setLane, State.lane]
  simp

/-- A lane alarm whose latch is set stays as it is (R173). -/
theorem State.latchLane_of_latched {s : State} {l : Lane} {a : LaneAlarm} (h : ((s.lane l).alarms[a.place]).latch.isSome = true)
    (d : List Byte) : s.latchLane l a d = s := by
  have halarms : (s.lane l).alarms.set a.place (((s.lane l).alarms[a.place]).set d) = (s.lane l).alarms := by
    rw [Alarm.set_of_latched h]
    simp
  have hlanes : s.updLane l (fun r => { r with alarms := r.alarms.set a.place (((s.lane l).alarms[a.place]).set d) }) = s :=
    State.updLane_of_eq (congrArg (fun v => { s.lane l with alarms := v }) halarms)
  simp only [State.latchLane, hlanes, reasonAfterLatch_of_latched h]

/-- A chip alarm whose latch is set stays as it is (R173). -/
theorem State.latchChip_of_latched {s : State} {a : ChipAlarm} (h : (s.chipAlarms[a.place]).latch.isSome = true) (d : List Byte) :
    s.latchChip a d = s := by
  rw [State.latchChip, Alarm.set_of_latched h, reasonAfterLatch_of_latched h]
  simp

/-! ## The stop request after a latch -/

/-- With an alarm of a lane latched the stop request is present where it was, or where the alarm's stop-enable is on (R177). -/
theorem State.stopPresent_latchLane_iff (s : State) (l : Lane) (a : LaneAlarm) (d : List Byte) :
    (s.latchLane l a d).stopPresent = true ↔ s.stopPresent = true ∨ ((s.lane l).alarms[a.place]).stopEn = true := by
  simp only [State.stopPresent_iff, State.laneAlarm_latchLane, State.latchLane_chipAlarms]
  constructor
  · rintro (⟨m, j, h⟩ | hchip)
    · split at h
      · next hat =>
        obtain ⟨rfl, rfl⟩ := hat
        exact .inr ((Alarm.stops_set d _).symm.trans h)
      · exact .inl (.inl ⟨m, j, h⟩)
    · exact .inl (.inr hchip)
  · rintro ((⟨m, j, h⟩ | hchip) | hen)
    · refine .inl ⟨m, j, ?_⟩
      split
      · rw [Alarm.stops_set]
        exact ((Alarm.stops_iff _).1 h).2
      · exact h
    · exact .inr hchip
    · exact .inl ⟨l, a.place, by rw [if_pos ⟨rfl, rfl⟩, Alarm.stops_set]; exact hen⟩

/-- With an alarm of the chip latched the stop request is present where it was, or where the alarm's stop-enable is on (R177). -/
theorem State.stopPresent_latchChip_iff (s : State) (a : ChipAlarm) (d : List Byte) :
    (s.latchChip a d).stopPresent = true ↔ s.stopPresent = true ∨ (s.chipAlarms[a.place]).stopEn = true := by
  have hlane : ∀ l, (s.latchChip a d).lane l = s.lane l := fun _ => rfl
  simp only [State.stopPresent_iff, State.chipAlarm_latchChip, hlane]
  constructor
  · rintro (hl | ⟨j, h⟩)
    · exact .inl (.inl hl)
    · split at h
      · next hat =>
        subst hat
        exact .inr ((Alarm.stops_set d _).symm.trans h)
      · exact .inl (.inr ⟨j, h⟩)
  · rintro ((hl | ⟨j, h⟩) | hen)
    · exact .inl hl
    · refine .inr ⟨j, ?_⟩
      split
      · rw [Alarm.stops_set]
        exact ((Alarm.stops_iff _).1 h).2
      · exact h
    · exact .inr ⟨a.place, by rw [if_pos rfl, Alarm.stops_set]; exact hen⟩

end Sys2Proof.Machine

namespace Sys2Proof.Proofs

open Sys2Proof.Machine Sys2Proof.Safety

/-- Settles O10: a set latch leaves the whole state, and a clear one is written with its data and the stop reason. -/
theorem latchingAnAlarm : Obligations.LatchingAnAlarm := by
  refine ⟨⟨rfl, rfl, fun _ => rfl, fun _ => rfl⟩, fun s => ?_, fun s l kind data => ⟨fun h => ?_, fun h => ?_⟩,
    fun s kind data => ⟨fun h => ?_, fun h => ?_⟩⟩
  · simp only [State.stopPresent_iff, Alarm.stops_iff]
  · exact State.latchLane_of_latched h data
  · refine ⟨?_, fun m hm => State.lane_latchLane_ne s kind data hm.symm, reasonAfterLatch_of_clear h _ _ _, rfl⟩
    rw [State.lane_latchLane_self, latchedLane, Alarm.set_of_clear h]
  · exact State.latchChip_of_latched h data
  · rw [State.latchChip, Alarm.set_of_clear h, reasonAfterLatch_of_clear h]

end Sys2Proof.Proofs
end

section
/-! PROOFS. The tracking, the conversions and the starting of lanes change the alarms only by latching some of them, one after another (R173). -/

namespace Sys2Proof.Machine

open Sys2Proof.Safety

/-! ## Alarms latched one after another -/

/-- Of the alarms and the stop reason nothing changes but by latching alarms (R173). -/
inductive State.Latches : State → State → Prop where
  | same {s t : State} (lane : ∀ l, (t.lane l).alarms = (s.lane l).alarms) (chip : t.chipAlarms = s.chipAlarms)
      (reason : t.stopReason = s.stopReason) : Latches s t
  | lane (s : State) (l : Lane) (a : LaneAlarm) (d : List Byte) : Latches s (s.latchLane l a d)
  | chip (s : State) (a : ChipAlarm) (d : List Byte) : Latches s (s.latchChip a d)
  | trans {s t u : State} (h : Latches s t) (g : Latches t u) : Latches s u

theorem State.Latches.refl (s : State) : s.Latches s := .same (fun _ => rfl) rfl rfl

theorem State.latches_setLane (s : State) (l : Lane) (r : LaneRec) (h : r.alarms = (s.lane l).alarms) : s.Latches (s.setLane l r) := by
  refine .same (fun m => ?_) rfl rfl
  rw [State.lane_setLane]
  split
  · next hm => subst hm; exact h
  · rfl

theorem State.latches_updLane (s : State) (l : Lane) (f : LaneRec → LaneRec) (h : ∀ r, (f r).alarms = r.alarms) : s.Latches (s.updLane l f) :=
  s.latches_setLane l _ (h _)

theorem State.latches_mapWeb (s : State) (l : Lane) (f : Card → Card) : s.Latches (s.mapWeb l f) := s.latches_updLane l _ (by intros; rfl)

theorem State.latches_freeRecord (s : State) (c : Card) : s.Latches (s.freeRecord c) :=
  .same (fun l => congrArg LaneRec.alarms (s.lane_freeRecord c l)) (s.freeRecord_chipAlarms c) (s.freeRecord_stopReason c)

theorem State.latches_withGate (s : State) (gate : List Card) : s.Latches (s.withGate gate) := .same (fun _ => rfl) rfl rfl

/-- What latches at every turn latches in all. -/
theorem State.latches_foldl {α : Type} (f : State → α → State) (xs : List α) (s : State) (h : ∀ (t : State) a, t.Latches (f t a)) :
    s.Latches (xs.foldl f s) :=
  foldl_keeps (s.Latches ·) f xs s (.refl s) (fun t a _ ht => ht.trans (h t a))

theorem State.latches_eachLane (f : Lane → State → State) (s : State) (h : ∀ l (t : State), t.Latches (f l t)) : s.Latches (s.eachLane f) :=
  s.latches_foldl _ _ (fun t l => h l t)

/-- Cards are counted in their lanes and freed (R27). -/
theorem State.latches_release (s : State) (place : Card → Lane) (count : Card → LaneRec → LaneRec) (cs : List Card)
    (h : ∀ c r, (count c r).alarms = r.alarms) : s.Latches (s.release place count cs) :=
  s.latches_foldl _ cs (fun t c => (t.latches_updLane (place c) (count c) (h c)).trans (State.latches_freeRecord _ c))

theorem State.latches_removeGate (s : State) (p : Card → Bool) (count : Card → LaneRec → LaneRec)
    (h : ∀ c r, (count c r).alarms = r.alarms) : s.Latches (s.removeGate p count) := by
  rw [State.removeGate_eq]
  exact (s.latches_withGate _).trans (State.latches_release _ _ count _ h)

/-! ## Stages 1 to 3 -/

theorem State.latches_applyReport (s : State) (f : Frame) (l : Lane) (k : Index) (kind : Kind) : s.Latches (s.applyReport f l k kind) := by
  unfold State.applyReport
  split
  · exact .refl s
  · exact (s.latches_mapWeb l _).trans (State.latches_updLane _ l _ (by intros; rfl))

/-- The gate's count latches UNEXPECTED_REJECT where it exceeds the gate entries (R122). -/
theorem State.latches_applyGateCount (s : State) (l : Lane) (k : Index) (n : Nat) : s.Latches (s.applyGateCount l k n) := by
  have hconfirmed : s.Latches (s.confirm l (min n (s.gateOf l).length)) := by
    obtain ⟨gate, -, heq⟩ := s.confirm_eq l (min n (s.gateOf l).length)
    rw [heq]
    exact (s.latches_withGate gate).trans (State.latches_release _ _ _ _ (fun c r => r.countRejected_alarms c))
  unfold State.applyGateCount
  simp only
  split
  · have hcounted := hconfirmed.trans (State.latches_updLane _ l (LaneRec.bump 19 (n - (s.gateOf l).length)) (by intros; rfl))
    split
    · exact hcounted
    · exact hcounted.trans (.lane _ l _ _)
  · exact hconfirmed

/-- STATION_LOST is latched where it becomes active (R85). -/
theorem State.latches_evalStationLost (s : State) (l : Lane) : s.Latches (s.evalStationLost l) := by
  have h : ∀ now : Bool, s.Latches (s.updLane l (fun r => { r with stationLost := now })) := fun now =>
    s.latches_updLane l _ (by intros; rfl)
  unfold State.evalStationLost
  simp only
  split
  · refine ((h _).trans (.lane _ l _ _)).trans (State.latches_updLane _ l _ (fun r => ?_))
    split
    · exact r.enterFault_alarms
    · rfl
  · exact h _

theorem latches_stage1 (f : Frame) (k : Index) (applies : Bool) (l : Lane) (s : State) : s.Latches (stage1 f k applies l s) := by
  unfold stage1
  split
  · exact .refl s
  · simp only
    split
    · exact ((s.latches_foldl _ _ (fun t kind => t.latches_applyReport f l k kind)).trans
        (State.latches_applyGateCount _ l k _)).trans (State.latches_evalStationLost _ l)
    · exact s.latches_evalStationLost l

/-- REJECT_UNCONFIRMED is latched where an entry expires (R123). -/
theorem latches_stage2 (k : Index) (l : Lane) (s : State) : s.Latches (stage2 k l s) := by
  unfold stage2
  split
  · exact .refl s
  · simp only
    split
    · exact .refl s
    · exact (s.latches_removeGate _ _ (by simp [LaneRec.countExpired])).trans (.lane _ l _ _)

/-- CHANGEOVER_FAILED is latched where the entry is EMPTY (R51). -/
theorem State.latches_takeChangeover (s : State) (k : Index) (l : Lane) : s.Latches (s.takeChangeover k l) := by
  unfold State.takeChangeover
  split
  · exact .refl s
  · split
    · split
      · exact s.latches_updLane l _ (by intros; rfl)
      · exact (s.latches_updLane l _ (by intros; rfl)).trans (.lane _ l _ _)
    · exact .refl s

theorem latches_stage3 (k : Index) (l : Lane) (s : State) : s.Latches (stage3 k l s) := by
  unfold stage3
  split
  · exact s.latches_mapWeb l _
  · exact s.latches_takeChangeover k l
  · exact s.latches_takeChangeover k l
  · exact .refl s

/-! ## Stages 4 to 7, which latch nothing -/

theorem LaneRec.passEvents_alarms (c : Card) (recipe : Recipe) (r : LaneRec) : (r.passEvents c recipe).1.alarms = r.alarms := by
  rw [LaneRec.passEvents_eq]

theorem State.latches_passAtPunch (s : State) (l : Lane) (c : Card) : s.Latches (s.passAtPunch l c).1 := by
  unfold State.passAtPunch
  refine State.Latches.trans (s.latches_setLane l _ ?_) (State.latches_freeRecord _ c)
  exact LaneRec.passEvents_alarms c (s.recipeOf c) (s.lane l)

theorem State.latches_rejectAtPunch (s : State) (k : Index) (l : Lane) (c : Card) : s.Latches (s.rejectAtPunch k l c) :=
  (s.latches_updLane l _ (by intros; rfl)).trans (State.latches_withGate _ _)

theorem State.latches_punch (s : State) (k : Index) (l : Lane) : s.Latches (s.punch k l).1 := by
  have hanswered : s.Latches (s.updLane l (fun r => { r with blindAnswer := false })) := s.latches_updLane l _ (by intros; rfl)
  unfold State.punch
  split
  · dsimp only
    exact s.latches_updLane l _ (by intros; rfl)
  · simp only
    split
    · exact hanswered
    · split
      · split
        · exact hanswered.trans (State.latches_passAtPunch _ l _)
        · exact hanswered.trans (State.latches_rejectAtPunch _ k l _)
      · exact hanswered

theorem latches_stage4 (k : Index) (l : Lane) (s : State) : s.Latches (stage4 k l s) := by
  refine (s.latches_punch k l).trans ?_
  unfold stage4
  exact State.latches_updLane _ l _ (by intros; rfl)

theorem latches_stage5 (k : Index) (l : Lane) (s : State) : s.Latches (stage5 k l s) := by
  unfold stage5
  split
  · cases hfree : s.free with
    | nil => rw [State.createCard, hfree]; exact .refl s
    | cons n rest =>
      rw [Proofs.createCard_of_free hfree]
      have htaken : s.Latches { s with free := rest, serial := s.serial + 1 } := .same (fun _ => rfl) rfl rfl
      exact (htaken.trans (State.latches_updLane _ l _ (by intros; rfl))).trans
        (.same (fun m => congrArg LaneRec.alarms (State.lane_updRefs ..)) (State.updRefs_chipAlarms ..) (State.updRefs_stopReason ..))
  · exact .refl s

theorem latches_stage6 (k : Index) (l : Lane) (s : State) : s.Latches (stage6 k l s) := by
  refine s.latches_foldl _ _ (fun t kind => ?_)
  unfold State.planStation
  split
  · exact .refl t
  · exact (t.latches_mapWeb l _).trans (State.latches_updLane _ l _ (by intros; rfl))

/-- A lane that enters IDLE with its run-end close keeps its alarms (R43, R48). -/
theorem LaneRec.close_alarms (mode : Option CloseMode) (full : Bool) (r : LaneRec) :
    (r.enterIdle.runEndClose mode full).1.alarms = r.alarms := by
  rw [LaneRec.runEndClose_eq]
  rfl

theorem latches_stage7 (l : Lane) (s : State) : s.Latches (stage7 l s) := by
  unfold stage7
  simp only
  split
  · exact s.latches_setLane l _ (LaneRec.close_alarms ..)
  · exact .refl s

theorem State.latches_clearLane (s : State) (l : Lane) : s.Latches (s.clearLane l) := s.latches_setLane l _ (LaneRec.close_alarms ..)

theorem State.latches_faultAfterStep (s : State) (l : Lane) : s.Latches (s.faultAfterStep l) := by
  refine s.latches_updLane l _ (fun r => ?_)
  split
  · exact r.enterFault_alarms
  · rfl

/-! ## The pitch steps -/

theorem latches_runStage (x : StepCtx) (n : Nat) (l : Lane) (s : State) : s.Latches (runStage x n l s) := by
  unfold runStage
  split
  · exact latches_stage1 _ _ _ l s
  · exact latches_stage2 _ l s
  · exact latches_stage3 _ l s
  · exact latches_stage4 _ l s
  · exact latches_stage5 _ l s
  · exact latches_stage6 _ l s
  · exact (latches_stage7 l s).trans (State.latches_faultAfterStep _ l)
  · exact .refl s

/-- ZONE_FAULT is latched where it becomes active (R115). -/
theorem State.latches_zoneFaultBegins (s : State) (l : Lane) (inStep : Bool) : s.Latches (s.zoneFaultBegins l inStep) := by
  rw [State.zoneFaultBegins_eq]
  refine State.Latches.trans (.lane s l _ _) (State.latches_updLane _ l _ (fun r => ?_))
  split
  · rfl
  · exact r.enterFault_alarms

theorem State.latches_convert (s : State) (raw : RawCode) (inStep : Lane → Bool) : s.Latches (s.convert raw inStep) := by
  have hzone : ∀ z, s.Latches (s.setZone s.conv.zone z) := fun z => .same (fun _ => rfl) rfl rfl
  have hbegin : ∀ (u : State) m, u.Latches (u.beginConversion m) := fun u m => .same (fun _ => rfl) rfl rfl
  by_cases h : s.Faults raw
  · rw [State.convert_of_faults h]
    exact ((hzone _).trans (State.latches_zoneFaultBegins _ _ _)).trans (hbegin _ _)
  · rw [State.convert_of_not h]
    exact (hzone _).trans (hbegin _ _)

theorem latches_runPitchSteps (x : StepCtx) (ticks : List Tick) (s : State) : s.Latches (runPitchSteps x ticks s) :=
  runPitchSteps_keeps (s.Latches ·) x ticks s (.refl s) (fun n l t ht => ht.trans (latches_runStage x n l t))
    (fun raw inStep t _ ht => ht.trans (t.latches_convert raw inStep))

/-! ## Before the pitch steps -/

/-- INDEX_GAP is latched before the gap handling of the lanes, which latches nothing (R132 to R137). -/
theorem latches_gapHandling (last k : Index) (order : List Lane) (s : State) : s.Latches (gapHandling last k order s) := by
  refine gapHandling_keeps (s.Latches ·) last k order s (.chip s _ _) (fun n l t ht => ht.trans ?_)
  unfold gapPart
  split
  · exact t.latches_removeGate _ _ (by simp [LaneRec.countUnverified])
  · rw [State.retireWeb_eq]
    exact (t.latches_updLane l _ (by intros; rfl)).trans (State.latches_release _ _ _ _ (by simp))
  · exact t.latches_mapWeb l _
  · exact .refl t

/-- TRACK_LOST is latched for every lane that is not IDLE (R140). -/
theorem latches_lostTrack (last k : Index) (s : State) : s.Latches (lostTrack last k s) := by
  have hgate := s.latches_removeGate (fun _ => true) LaneRec.countUnverified (by simp [LaneRec.countUnverified])
  have hwebs : ∀ t : State, t.Latches (t.eachLane (fun l u => u.loseWeb l)) := fun t => t.latches_eachLane _ (fun l u => by
    rw [State.loseWeb_eq]
    exact (u.latches_updLane l _ (by intros; rfl)).trans (State.latches_release _ _ _ _ (by intros; rfl)))
  refine (hgate.trans (hwebs _)).trans (State.latches_eachLane _ _ (fun l t => ?_))
  unfold State.loseLane
  split
  · exact .refl t
  · exact (t.latches_updLane l (fun r => { r.enterFault with blind := t.map.e }) (fun r => r.enterFault_alarms)).trans (.lane _ l _ _)

theorem latches_continuity (cls : FrameClass) (k : Index) (gapOrder : List Lane) (s : State) : s.Latches (continuity cls k gapOrder s) := by
  unfold continuity
  split
  · exact .chip s _ _
  · exact latches_gapHandling _ k gapOrder s
  · exact latches_lostTrack _ k s
  · exact .refl s

/-- BANK_SWITCH_FAILED is latched where a lane has no entry to go on with (R68, R72). -/
theorem State.latches_decideSwitch (s : State) (k : Index) : s.Latches (s.decideSwitch k) := by
  unfold State.decideSwitch
  split
  · exact .refl s
  · split
    · split
      · exact .same (fun _ => rfl) rfl rfl
      · have hdropped : s.Latches { s with pendingSwitch := none } := .same (fun _ => rfl) rfl rfl
        exact hdropped.trans (.chip _ _ _)
    · exact .refl s

theorem latches_frameAccepted (k : Index) (s : State) : s.Latches (frameAccepted k s) := by
  have hlast : s.Latches { s with lastIndex := some k } := .same (fun _ => rfl) rfl rfl
  exact (hlast.trans (State.latches_decideSwitch _ k)).trans (State.latches_eachLane _ _ (fun l t =>
    t.latches_updLane l (fun r => { r with plan := LanePlan.none }) (by intros; rfl)))

theorem latches_beginCycle (f : Frame) (cls : FrameClass) (gapOrder : List Lane) (s : State) : s.Latches (beginCycle f cls gapOrder s) := by
  have htaken : s.Latches (frameTaken cls s) := .same (fun _ => rfl) rfl rfl
  have hcontinuity := htaken.trans (latches_continuity cls (frameIndex f) gapOrder _)
  rw [beginCycle_eq]
  split
  · exact hcontinuity
  · exact hcontinuity.trans (latches_frameAccepted _ _)

/-- A cycle frame changes the alarms by latching some (R132, R173). -/
theorem latches_processCycle (f : Frame) (gapOrder : List Lane) (ticks : List Tick) (s : State) :
    s.Latches (processCycle f gapOrder ticks s).state := by
  rw [processCycle_eq]
  exact slots_keep (s.Latches ·) (fun _ _ h => h.trans (.same (fun _ => rfl) rfl rfl)) (fun _ a d h => h.trans (.chip _ a d))
    (fun _ l a d h => h.trans (.lane _ l a d)) _ f ((latches_beginCycle f _ gapOrder s).trans (latches_runPitchSteps _ ticks _))

/-! ## Lanes and frames -/

/-- LANE RUN latches ZONE_FAULT where the zone is in FAULT (R41). -/
theorem State.latches_startLane (s : State) (l : Lane) (e : EntryNo) : s.Latches (s.startLane l e) := by
  have hrun : s.Latches (s.updLane l (fun r => { r with state := .run, assigned := e })) := s.latches_updLane l _ (by intros; rfl)
  by_cases h : (s.zone l).state = .fault
  · rw [State.startLane_of_fault h]
    exact hrun.trans (State.latches_zoneFaultBegins _ l false)
  · rwa [State.startLane_of_ne_fault h]

/-- A frame that is not taken into the buffer latches FRAME_CRC or RING_OVERRUN (R144). -/
theorem State.latches_arrive (s : State) (f : Frame) : s.Latches (s.arrive f) := by
  have hdiscarded : s.Latches { s with ring := s.ring.addDiscarded } := .same (fun _ => rfl) rfl rfl
  unfold State.arrive
  split
  · exact hdiscarded.trans (.chip _ _ _)
  · split
    · exact .same (fun _ => rfl) rfl rfl
    · exact hdiscarded.trans (.chip _ _ _)

theorem State.latches_sendHead (s : State) (f : Frame) : s.Latches (s.sendHead f) :=
  .same (fun l => congrArg LaneRec.alarms (s.lane_sendHead f l)) (s.sendHead_chipAlarms f) (s.sendHead_stopReason f)

end Sys2Proof.Machine
end

section
/-! PROOFS. The masks of SET_ALARM_MASKS, and the stop reason settled after a change of masks or latches (R172, R174, R175, R177). -/

namespace Sys2Proof.Machine

open Sys2Proof.Safety

/-! ## The settled stop reason -/

/-- The codes of the alarms that reach the stop request (R172, R177). -/
theorem State.mem_stopCodes_iff (s : State) (code : Nat) : code ∈ s.stopCodes ↔
    (∃ (l : Lane) (i : Fin 7), (s.lane l).alarms[i].stops = true ∧ code = i.val + 1) ∨
      ∃ i : Fin 6, s.chipAlarms[i].stops = true ∧ code = i.val + 8 := by
  simp [State.stopCodes, zipIdx_toList, List.mem_flatMap, eq_comm (a := code)]

theorem State.one_le_of_mem_stopCodes {s : State} {code : Nat} (h : code ∈ s.stopCodes) : 1 ≤ code := by
  obtain ⟨l, i, -, rfl⟩ | ⟨i, -, rfl⟩ := (s.mem_stopCodes_iff code).1 h <;> omega

/-- The stop request is present while some code reaches it (R177). -/
theorem State.stopCodes_ne_nil {s : State} (h : s.stopPresent = true) : s.stopCodes ≠ [] := by
  obtain ⟨l, i, hi⟩ | ⟨i, hi⟩ := s.stopPresent_iff.1 h
  · exact List.ne_nil_of_mem ((s.mem_stopCodes_iff _).2 (.inl ⟨l, i, hi, rfl⟩))
  · exact List.ne_nil_of_mem ((s.mem_stopCodes_iff _).2 (.inr ⟨i, hi, rfl⟩))

/-- Settling changes the stop reason alone (R177). -/
theorem State.settleStop_frame (s : State) : s.settleStop = { s with stopReason := s.settleStop.stopReason } := by
  unfold State.settleStop
  split
  · split <;> rfl
  · rfl

theorem State.lane_settleStop (s : State) (l : Lane) : s.settleStop.lane l = s.lane l := by
  rw [State.settleStop_frame]
  rfl

theorem State.chipAlarms_settleStop (s : State) : s.settleStop.chipAlarms = s.chipAlarms := by rw [State.settleStop_frame]

theorem State.stopPresent_settleStop (s : State) : s.settleStop.stopPresent = s.stopPresent := by
  rw [State.settleStop_frame]
  rfl

theorem State.stopReason_settleStop_of_absent {s : State} (h : s.stopPresent = false) : s.settleStop.stopReason = 0 := by
  rw [State.settleStop, if_neg (by simp [h])]

theorem State.stopReason_settleStop_of_ne_zero {s : State} (h : s.stopPresent = true) (hr : s.stopReason ≠ 0) :
    s.settleStop.stopReason = s.stopReason := by
  rw [State.settleStop, if_pos h, if_neg hr]

/-- Where the stop request has become present its reason is the lowest code that reaches it (R177). -/
theorem State.stopReason_settleStop_least {s : State} (h : s.stopPresent = true) (hr : s.stopReason = 0) :
    s.settleStop.stopReason ∈ s.stopCodes ∧ ∀ code ∈ s.stopCodes, s.settleStop.stopReason ≤ code := by
  obtain ⟨least, hleast⟩ := Option.ne_none_iff_exists'.1 (mt List.min?_eq_none_iff.1 (State.stopCodes_ne_nil h))
  have hreason : s.settleStop.stopReason = least := by rw [State.settleStop, if_pos h, if_pos hr, hleast]; rfl
  rw [hreason]
  exact List.min?_eq_some_iff.1 hleast

/-- A settled stop reason stands exactly while the stop request is present (R177). -/
theorem State.stopSound_settleStop (s : State) : StopSound s.settleStop := by
  rw [StopSound, s.stopPresent_settleStop]
  cases h : s.stopPresent with
  | false => simp [State.stopReason_settleStop_of_absent h]
  | true =>
    refine ⟨fun _ => ?_, fun _ => rfl⟩
    by_cases hr : s.stopReason = 0
    · exact Nat.ne_of_gt (State.one_le_of_mem_stopCodes (State.stopReason_settleStop_least h hr).1)
    · rwa [State.stopReason_settleStop_of_ne_zero h hr]

/-! ## Masks -/

/-- A lane record with its enables replaced (R175). -/
def LaneRec.mask (summary stop : Byte) (r : LaneRec) : LaneRec := { r with alarms := r.alarms.mapIdx (Alarm.mask summary stop laneFixed) }

theorem State.maskLane_eq (s : State) (summary stop : Byte) (l : Lane) : s.maskLane summary stop l = s.updLane l (LaneRec.mask summary stop) := rfl

/-- The lanes of the scope have their enables replaced (R175). -/
theorem State.lane_maskScope (s : State) (summary stop : Byte) (sc : Scope) (l : Lane) : (s.maskScope summary stop sc).lane l =
    if sc.number = l ∨ sc.number = 255 then (s.lane l).mask summary stop else s.lane l := by
  have hl := l.isLt
  cases sc with
  | lane m =>
    have hm := m.isLt
    rw [State.maskScope, State.maskLane_eq, State.lane_updLane]
    simp only [Scope.number, Fin.val_inj, show (m : Nat) ≠ 255 by omega, or_false]
  | chip =>
    rw [if_neg (by simp only [Scope.number]; omega)]
    rfl
  | all =>
    rw [if_pos (.inr rfl)]
    exact State.lane_eachLane_local (P := fun _ => True) (g := fun _ => LaneRec.mask summary stop) (fun _ _ _ => trivial)
      (fun m t _ => t.lane_updLane_self m _) (fun m _ t _ h => t.lane_updLane_ne _ h) trivial l

theorem State.chipAlarms_maskScope (s : State) (summary stop : Byte) (sc : Scope) : (s.maskScope summary stop sc).chipAlarms =
    if sc.number = 254 then s.chipAlarms.mapIdx (Alarm.mask summary stop chipFixed) else s.chipAlarms := by
  cases sc with
  | lane m =>
    rw [if_neg (by simp only [Scope.number]; omega)]
    rfl
  | chip => rfl
  | all => exact State.eachLane_keeps (fun t => t.chipAlarms = s.chipAlarms) _ s rfl fun _ _ ht => ht

/-- Masks change the alarms of the lanes and the chip alone (R175). -/
theorem State.maskScope_frame (s : State) (summary stop : Byte) (sc : Scope) :
    { s.maskScope summary stop sc with lanes := s.lanes, chipAlarms := s.chipAlarms } = s := by
  cases sc with
  | lane m => rfl
  | chip => rfl
  | all => exact State.eachLane_keeps (fun t => ({ t with lanes := s.lanes, chipAlarms := s.chipAlarms } : State) = s) _ s rfl fun _ _ ht => ht

theorem State.stopReason_maskScope (s : State) (summary stop : Byte) (sc : Scope) : (s.maskScope summary stop sc).stopReason = s.stopReason :=
  (congrArg State.stopReason (s.maskScope_frame summary stop sc) :)

theorem State.laneFrame_maskScope (s : State) (summary stop : Byte) (sc : Scope) (l : Lane) :
    { (s.maskScope summary stop sc).lane l with alarms := (s.lane l).alarms } = s.lane l := by
  rw [State.lane_maskScope]
  split <;> rfl

/-- The alarms of a lane after the masks, one by one (R175). -/
theorem State.laneAlarm_maskScope (s : State) (summary stop : Byte) (sc : Scope) (l : Lane) (i : Fin 7) :
    ((s.maskScope summary stop sc).lane l).alarms[i] =
      if sc.number = l ∨ sc.number = 255 then (s.lane l).alarms[i].mask summary stop laneFixed i else (s.lane l).alarms[i] := by
  rw [State.lane_maskScope]
  split
  · simp only [LaneRec.mask, Fin.getElem_fin, Vector.getElem_mapIdx]
  · rfl

/-- The chip's alarms after the masks, one by one (R175). -/
theorem State.chipAlarm_maskScope (s : State) (summary stop : Byte) (sc : Scope) (i : Fin 6) :
    (s.maskScope summary stop sc).chipAlarms[i] =
      if sc.number = 254 then s.chipAlarms[i].mask summary stop chipFixed i else s.chipAlarms[i] := by
  rw [State.chipAlarms_maskScope]
  split
  · simp only [Fin.getElem_fin, Vector.getElem_mapIdx]
  · rfl

end Sys2Proof.Machine
end

section
/-! PROOFS. Every step keeps a stop reason exactly while the stop request is present, and the fixed stop-enables on (R172 to R178). -/

namespace Sys2Proof.Machine

open Sys2Proof.Safety

/-! ## The two laws, and what carries them over -/

/-- The laws of the stop request: a reason exactly while it is present, and the fixed stop-enables on (R172, R177). -/
def StopHeld (s : State) : Prop := StopSound s ∧ FixedSound s

/-- Stop-enables that are nowhere turned off leave the fixed ones on (R172). -/
theorem fixedSound_of_stopEn {s t : State} (hs : FixedSound s)
    (hlane : ∀ l (i : Fin 7), laneFixed i = true → (s.lane l).alarms[i].stopEn = true → (t.lane l).alarms[i].stopEn = true)
    (hchip : ∀ i : Fin 6, chipFixed i = true → s.chipAlarms[i].stopEn = true → t.chipAlarms[i].stopEn = true) : FixedSound t := by
  obtain ⟨hl, hc⟩ := hs
  exact ⟨fun l => ⟨hlane l 2 rfl (hl l).1, hlane l 5 rfl (hl l).2⟩, hchip 5 rfl hc⟩

/-- With the alarms and the stop reason as they were. -/
theorem StopHeld.of_same {s t : State} (hs : StopHeld s) (hlane : ∀ l, (t.lane l).alarms = (s.lane l).alarms)
    (hchip : t.chipAlarms = s.chipAlarms) (hreason : t.stopReason = s.stopReason) : StopHeld t := by
  obtain ⟨hstop, hfixed⟩ := hs
  have hpresent : t.stopPresent = s.stopPresent := by simp only [State.stopPresent, hlane, hchip]
  refine ⟨by rwa [StopSound, hpresent, hreason], fixedSound_of_stopEn hfixed (fun l i _ h => ?_) (fun i _ h => ?_)⟩
  · rwa [hlane]
  · rwa [hchip]

theorem StopHeld.latchLane {s : State} (hs : StopHeld s) (l : Lane) (a : LaneAlarm) (d : List Byte) : StopHeld (s.latchLane l a d) := by
  obtain ⟨hstop, hfixed⟩ := hs
  refine ⟨?_, fixedSound_of_stopEn hfixed (fun m i _ h => ?_) (fun _ _ h => h)⟩
  · rw [StopSound, State.stopPresent_latchLane_iff, State.stopReason_latchLane]
    exact (reasonAfterLatch_ne_zero_iff a.code_ne_zero hstop (fun h => s.stopPresent_iff.2 (.inl ⟨l, a.place, h⟩))).symm
  · rw [State.laneAlarm_latchLane]
    split
    · rwa [Alarm.stopEn_set]
    · exact h

theorem StopHeld.latchChip {s : State} (hs : StopHeld s) (a : ChipAlarm) (d : List Byte) : StopHeld (s.latchChip a d) := by
  obtain ⟨hstop, hfixed⟩ := hs
  refine ⟨?_, fixedSound_of_stopEn hfixed (fun _ _ _ h => h) (fun i _ h => ?_)⟩
  · rw [StopSound, State.stopPresent_latchChip_iff]
    exact (reasonAfterLatch_ne_zero_iff a.code_ne_zero hstop (fun h => s.stopPresent_iff.2 (.inr ⟨a.place, h⟩))).symm
  · rw [State.chipAlarm_latchChip]
    split
    · rwa [Alarm.stopEn_set]
    · exact h

/-- What changes the alarms by latching alone keeps the laws (R173, R177). -/
theorem StopHeld.of_latches {s t : State} (h : s.Latches t) (hs : StopHeld s) : StopHeld t := by
  induction h with
  | same lane chip reason => exact hs.of_same lane chip reason
  | lane s l a d => exact hs.latchLane l a d
  | chip s a d => exact hs.latchChip a d
  | trans _ _ ihs iht => exact iht (ihs hs)

/-! ## Requests -/

/-- Settled after a change of latches or masks the laws hold, whatever the stop reason was (R177). -/
theorem stopHeld_settleStop {s : State} (hs : FixedSound s) : StopHeld s.settleStop := by
  refine ⟨s.stopSound_settleStop, fixedSound_of_stopEn hs (fun l i _ h => ?_) (fun i _ h => ?_)⟩
  · rwa [State.lane_settleStop]
  · rwa [State.chipAlarms_settleStop]

/-- Clearing latches leaves every stop-enable (R174). -/
theorem fixedSound_clearLatches {s : State} (hs : FixedSound s) (sc : Scope) : FixedSound (s.clearLatches sc) := by
  refine fixedSound_of_stopEn hs (fun l i _ h => ?_) (fun i _ h => ?_)
  · rw [State.laneAlarm_clearLatches]
    split <;> exact h
  · rw [State.chipAlarm_clearLatches]
    split <;> exact h

/-- A mask leaves a fixed stop-enable on (R175). -/
theorem Alarm.stopEn_mask_of_fixed {fixed : Nat → Bool} {i : Nat} (h : fixed i = true) (summary stop : Byte) (a : Alarm) :
    (a.mask summary stop fixed i).stopEn = true := by simp [Alarm.mask, h]

theorem fixedSound_maskScope {s : State} (hs : FixedSound s) (summary stop : Byte) (sc : Scope) :
    FixedSound (s.maskScope summary stop sc) := by
  refine fixedSound_of_stopEn hs (fun l i hi h => ?_) (fun i hi h => ?_)
  · rw [State.laneAlarm_maskScope]
    split
    · exact Alarm.stopEn_mask_of_fixed hi ..
    · exact h
  · rw [State.chipAlarm_maskScope]
    split
    · exact Alarm.stopEn_mask_of_fixed hi ..
    · exact h

/-- RESTART clears every latch and the stop reason with them, and keeps the masks (R170, R171, R178). -/
theorem StopHeld.restart {s : State} (hs : StopHeld s) : StopHeld s.restart := by
  refine ⟨?_, fixedSound_of_stopEn hs.2 (fun l i _ h => ?_) (fun i _ h => ?_)⟩
  · rw [StopSound, State.stopPresent_restart]
    simp [State.restart]
  · rwa [State.laneAlarm_restart]
  · rwa [State.chipAlarm_restart]

/-- Every request keeps the laws: it latches alarms, or settles the stop reason, or is RESTART. -/
theorem StopHeld.served {s u : State} (hs : StopHeld s) (h : Served s u) : StopHeld u := by
  have hlane : ∀ l (f : LaneRec → LaneRec), (∀ r, (f r).alarms = r.alarms) → StopHeld (s.updLane l f) := fun l f hf =>
    hs.of_latches (s.latches_updLane l f hf)
  cases h with
  | kept => exact hs
  | mapped m hidle hm => exact hs.of_same (fun _ => rfl) rfl rfl
  | placed m hidle hgate hm => exact hs.of_same (fun _ => rfl) rfl rfl
  | loaded b n r hb hrefs hr =>
    exact hs.of_same (fun l => by rw [State.lane_setEntry]) (State.setEntry_chipAlarms ..) (State.setEntry_stopReason ..)
  | switched x => exact hs.of_same (fun _ => rfl) rfl rfl
  | started l e hidle hm hmap he => exact hs.of_latches (s.latches_startLane l e)
  | reassigned l e hd he => exact hlane l _ (fun _ => rfl)
  | resumed l hd => exact hlane l _ (fun _ => rfl)
  | drained l hr => exact hlane l _ (fun _ => rfl)
  | purged l hw =>
    have hdrained := (s.latches_mapWeb l (Card.addReason .lanePurge)).trans
      (State.latches_updLane _ l (fun r => { r with state := .drain }) (fun _ => rfl))
    exact (hs.of_latches hdrained).of_same (fun _ => rfl) rfl rfl
  | cleared l hf hw hg hb => exact hs.of_latches (s.latches_clearLane l)
  | scheduled l ch hw => exact hlane l _ (fun _ => rfl)
  | forced l b => exact hlane l _ (fun _ => rfl)
  | autoPurged l b => exact hlane l _ (fun _ => rfl)
  | zeroedAll =>
    have hzeroed := s.latches_eachLane (fun l t => t.updLane l LaneRec.clearCounters) (fun l t => t.latches_updLane l _ (fun _ => rfl))
    exact (hs.of_latches hzeroed).of_same (fun _ => rfl) rfl rfl
  | zeroed l => exact hlane l _ (fun _ => rfl)
  | alarmsRead sc => exact stopHeld_settleStop (fixedSound_clearLatches hs.2 sc)
  | masked summary stop sc => exact stopHeld_settleStop (fixedSound_maskScope hs.2 summary stop sc)
  | zoneSet l offset limit ho hl => exact hs.of_same (fun _ => rfl) rfl rfl
  | zonesRead raws => exact hs.of_latches (s.latches_foldl _ raws (fun t raw => t.latches_convert raw _))
  | roleSet r hr => exact hs.of_same (fun _ => rfl) rfl rfl
  | restarted => exact hs.restart

/-! ## Commands -/

/-- Device reset leaves no latch, no stop reason and the stop-enables of the table (R172, R178). -/
theorem stopHeld_reset : StopHeld State.reset := by
  have hlane : ∀ l, State.reset.lane l = LaneRec.reset := fun l => by simp [State.reset, State.lane]
  have habsent : State.reset.stopPresent = false := by decide
  refine ⟨?_, fun l => ?_, rfl⟩
  · rw [StopSound, habsent]
    simp [State.reset]
  · rw [hlane]
    exact ⟨rfl, rfl⟩

/-- Every command keeps the laws. -/
theorem StopHeld.effect {s t : State} (hs : StopHeld s) (h : Effect s t) : StopHeld t := by
  cases h with
  | kept => exact hs
  | reset addr high => exact stopHeld_reset.of_same (fun _ => rfl) rfl rfl
  | halted => exact hs.of_same (fun _ => rfl) rfl rfl
  | removed => exact stopHeld_reset.of_same (fun _ => rfl) rfl rfl
  | arrived f h => exact hs.of_latches (s.latches_arrive f)
  | departed f rest h hp hb => exact hs.of_same (fun _ => rfl) rfl rfl
  | rejected f rest cause h hp hb =>
    have hcounted : StopHeld { s with ring := s.ring.addCrcError, phase := .sending } := hs.of_same (fun _ => rfl) rfl rfl
    exact hcounted.latchChip _ _
  | taken f rest p h hp hb => exact hs.of_same (fun _ => rfl) rfl rfl
  | handedOn f rest h hp hb =>
    unfold State.handOnCycle
    split <;> exact hs.of_same (fun _ => rfl) rfl rfl
  | cycled f rest gapOrder ticks h =>
    exact hs.of_latches ((latches_processCycle f gapOrder ticks s).trans (State.latches_sendHead _ _))
  | saturated h => exact hs.of_same (fun _ => rfl) rfl rfl
  | converted raw h => exact hs.of_latches (s.latches_convert raw _)
  | faulted l h => exact hs.of_latches (s.latches_faultAfterStep l)
  | answered f g u hf hg hu => exact (hs.served hu).of_latches (u.latches_sendHead g)

theorem StopHeld.tick {s : State} (hs : StopHeld s) : StopHeld s.tick := by
  unfold State.tick
  split
  · exact hs.of_same (fun _ => rfl) rfl rfl
  · exact hs

end Sys2Proof.Machine

namespace Sys2Proof.Proofs

open Sys2Proof.Machine Sys2Proof.Safety

/-- Settles O58: but for the alarm requests, RESTART and reset every command changes the alarms by latching alone, and a latch that makes the
stop request present gives its reason. -/
theorem stepKeepsStopRequest : Obligations.StepKeepsStopRequest := fun _ _ =>
  step_leads_to StopHeld StopHeld (fun _ _ hs => hs.of_same (fun _ => rfl) rfl rfl) (fun _ hs => hs.tick) (fun _ _ hs he => hs.effect he)

end Sys2Proof.Proofs
end

section
/-! PROOFS. SET_ALARM_MASKS: its refusals, its reply, and the stop request that the masks leave (R175, R177). -/

namespace Sys2Proof.Proofs

open Sys2Proof.Machine Sys2Proof.Safety

/-! ## The operand -/

/-- The chip has six alarms; a lane has seven, and so many are taken for a scope out of range (R172, R175, assumption 8). -/
theorem width_scopeOf (n : Nat) : ((scopeOf n).map Scope.width).getD 7 = if n = 254 then 6 else 7 := by
  unfold scopeOf
  split
  · rfl
  · split
    · rfl
    · cases laneOf n <;> rfl

theorem maskMalformed_iff (n : Nat) (m : Byte) : maskMalformed (scopeOf n) m = true ↔ (if n = 254 then 64 else 128) ≤ m.toNat := by
  rw [maskMalformed, width_scopeOf, decide_eq_true_iff]
  split <;> exact Iff.rfl

/-- Bits where no alarm stands make the operand malformed (R175). -/
abbrev WideMasks (d : List Byte) : Prop :=
  (if natAt d 0 = 254 then 64 else 128) ≤ natAt d 1 ∨ (if natAt d 0 = 254 then 64 else 128) ≤ natAt d 2

theorem setAlarmMasks_malformed_iff (d : List Byte) :
    (!restZero d 3 || maskMalformed (scopeOf (natAt d 0)) (byteAt d 1) || maskMalformed (scopeOf (natAt d 0)) (byteAt d 2)) = true ↔
      restZero d 3 = false ∨ WideMasks d := by
  rw [Bool.or_eq_true, Bool.or_eq_true, Bool.not_eq_true', maskMalformed_iff, maskMalformed_iff, or_assoc]
  rfl

theorem decideSetAlarmMasks_of_malformed {d : List Byte} {s : State} (h : restZero d 3 = false ∨ WideMasks d) :
    decideSetAlarmMasks d s = refuseFormat s := if_pos ((setAlarmMasks_malformed_iff d).2 h)

theorem decideSetAlarmMasks_of_no_scope {d : List Byte} {s : State} (hm : ¬ (restZero d 3 = false ∨ WideMasks d))
    (h5 : 5 < natAt d 0) (h : natAt d 0 < 254) : decideSetAlarmMasks d s = refuse .refusedRange [] s :=
  (if_neg (mt (setAlarmMasks_malformed_iff d).1 hm)).trans (by rw [scopeOf_of_no_scope h5 h])

theorem decideSetAlarmMasks_of_scope {d : List Byte} {sc : Scope} (s : State) (hm : ¬ (restZero d 3 = false ∨ WideMasks d))
    (h : natAt d 0 = sc.number) : decideSetAlarmMasks d s =
      ⟨.done, maskReply sc (byteAt d 0) (byteAt d 1) (byteAt d 2), (s.maskScope (byteAt d 1) (byteAt d 2) sc).settleStop⟩ :=
  (if_neg (mt (setAlarmMasks_malformed_iff d).1 hm)).trans (by rw [h, scopeOf_number])

/-- The fixed stop-enables: PLAN_CONFLICT of the chip, REJECT_UNCONFIRMED and TRACK_LOST of a lane (R172, R175). -/
theorem Scope.fixedMask_eq (sc : Scope) : sc.fixedMask = if sc.number = 254 then 0x20 else 0x24 := by
  cases sc with
  | lane l => rw [if_neg (by simp only [Scope.number]; omega)]; rfl
  | chip => rfl
  | all => rfl

/-! ## SET_ALARM_MASKS -/

/-- The alarms of a lane after SET_ALARM_MASKS, one by one (R175). -/
theorem laneAlarm_masked (s : State) (summary stop : Byte) (sc : Scope) (l : Lane) (i : Fin 7) :
    ((s.maskScope summary stop sc).settleStop.lane l).alarms[i] =
      if sc.number = l ∨ sc.number = 255 then
        { (s.lane l).alarms[i] with summaryEn := summary.getLsbD i, stopEn := stop.getLsbD i || decide (i = 2 ∨ i = 5) }
      else (s.lane l).alarms[i] := by
  rw [State.lane_settleStop, State.laneAlarm_maskScope, ← laneFixed_eq]
  rfl

/-- The chip's alarms after SET_ALARM_MASKS, one by one (R175). -/
theorem chipAlarm_masked (s : State) (summary stop : Byte) (sc : Scope) (i : Fin 6) :
    (s.maskScope summary stop sc).settleStop.chipAlarms[i] =
      if sc.number = 254 then
        { s.chipAlarms[i] with summaryEn := summary.getLsbD i, stopEn := stop.getLsbD i || decide (i = 5) }
      else s.chipAlarms[i] := by
  rw [State.chipAlarms_settleStop, State.chipAlarm_maskScope, ← chipFixed_eq]
  rfl

/-- Settles O51: the two refusals, and for each scope its reply, with the enables replaced and the settled stop request. -/
theorem setAlarmMasksReplaces : Obligations.SetAlarmMasksReplaces := by
  intro f rest s h hs d n limit wide fixed
  have hgood : restZero d 3 = true → ¬ wide → ¬ (restZero d 3 = false ∨ WideMasks d) := fun hz hw hm =>
    hm.elim (fun hm => by simp [hz] at hm) hw
  refine ⟨fun hm => serve_decided h (decideSetAlarmMasks_of_malformed hm) rfl,
    fun hz hw h5 hn => serve_decided h (decideSetAlarmMasks_of_no_scope (hgood hz hw) h5 hn) rfl, fun hz hw hn => ?_⟩
  obtain ⟨sc, hsc⟩ : ∃ sc : Scope, n = sc.number := exists_scope_number (natAt_lt d 0) hn
  let u := s.maskScope (byteAt d 1) (byteAt d 2) sc
  have hreason : u.stopReason = s.stopReason := State.stopReason_maskScope ..
  have hpresent : u.settleStop.stopPresent = u.stopPresent := u.stopPresent_settleStop
  refine ⟨u.settleStop, ?_, fun l => ⟨?_, fun i => ?_⟩, fun i => ?_, fun ht => ?_, fun ht hp => ?_, fun ht hp => ?_, ?_⟩
  · have hfixed : fixed = sc.fixedMask := by rw [Scope.fixedMask_eq, ← hsc]
    rw [hfixed]
    exact serve_decided h (decideSetAlarmMasks_of_scope s (hgood hz hw) hsc) (Served.masked _ _ sc).buffer
  · rw [State.lane_settleStop]
    exact s.laneFrame_maskScope _ _ sc l
  · rw [hsc]
    exact laneAlarm_masked ..
  · rw [hsc]
    exact chipAlarm_masked ..
  · exact State.stopReason_settleStop_of_absent (hpresent.symm.trans ht)
  · exact (State.stopReason_settleStop_of_ne_zero (hpresent.symm.trans ht) (by rw [hreason]; exact hs.1 hp)).trans hreason
  · have hzero : u.stopReason = 0 := by
      rw [hreason]
      exact of_not_not fun hne => by simp [hs.2 hne] at hp
    have hleast := State.stopReason_settleStop_least (hpresent.symm.trans ht) hzero
    simpa only [State.mem_stopCodes_iff, Alarm.stops_iff, and_assoc, State.lane_settleStop, State.chipAlarms_settleStop] using hleast
  · rw [State.settleStop_frame]
    exact congrArg (fun t : State => { t with stopReason := s.stopReason }) (s.maskScope_frame _ _ sc)

end Sys2Proof.Proofs
end
